-- ==== Sys2Proof/Word.lean ====
section
/-! DEFINITION. The two widths of the block: 32-bit registers and bytes (00_scope R7, 10_state R20). -/

namespace Sys2Proof

/-- A 32-bit register value or command word (10_state R20, 30_encoding R80). -/
abbrev Word := BitVec 32

/-- A byte, 0x00..0xFF (00_scope R7). -/
abbrev Byte := BitVec 8

end Sys2Proof
end

