-- ==== Sys2Proof/Config.lean ====
section
/-! DEFINITION. The implementation parameters of 00_scope R6. Those marked OPEN there are opaque constants: nothing in Lean can
evaluate them, so a claim about the reset machine holds for every value R6 admits (log 1). The free contents of OVL at
power-on stand here too (log 3). -/

namespace Sys2Proof

/-- The parameters a built block reports in its read-only registers (00_scope R6, 10_state R34 to R36). `magic` is P_MAGIC,
16 bytes of 7 bits each. -/
structure Params where
  /-- P_MEM_BYTES. -/
  memBytes : Nat
  /-- P_MFR_ID. -/
  mfrId : BitVec 7
  /-- P_MODEL_ID. -/
  modelId : BitVec 7
  /-- P_SIZE_SMALL. -/
  sizeSmall : Nat
  /-- P_SIZE_LARGE (and P_PAT_MAX, the size of OVL and MASK). -/
  sizeLarge : Nat
  /-- P_MAGIC. -/
  magic : Vector (BitVec 7) 16
  deriving DecidableEq, Repr

/-- Where P_MEM_BYTES lies in its range. OPEN (00_scope R6). -/
opaque Config.memBytesChoice : Nat
/-- Where P_SIZE_SMALL lies in its range. OPEN (00_scope R6). -/
opaque Config.sizeSmallChoice : Nat
/-- Where P_SIZE_LARGE lies in its range. OPEN (00_scope R6). -/
opaque Config.sizeLargeChoice : Nat
/-- P_MFR_ID. OPEN (00_scope R6). -/
opaque Config.mfrId : BitVec 7
/-- P_MODEL_ID. OPEN (00_scope R6). -/
opaque Config.modelId : BitVec 7
/-- Byte `i` of P_MAGIC. OPEN (00_scope R6). -/
opaque Config.magicByte : Nat → BitVec 7
/-- What OVL holds at an offset that nothing has written: unspecified (10_state R43, 70_reset R242). A free value (log 3). -/
opaque Config.ovlPowerOn : Nat → Byte

/-- P_MEM_BYTES: any value from 65536 to 2^31 (00_scope R6). -/
def Config.memBytes : Nat := Config.memBytesChoice % (2 ^ 31 - 65536 + 1) + 65536

/-- P_SIZE_SMALL: any value from 17 to 65535 (00_scope R6: at least 17 and below P_SIZE_LARGE, which is at most 65536). -/
def Config.sizeSmall : Nat := Config.sizeSmallChoice % (65536 - 17) + 17

/-- P_SIZE_LARGE: any value above P_SIZE_SMALL, at most 65536 (00_scope R6). -/
def Config.sizeLarge : Nat := Config.sizeLargeChoice % (65536 - Config.sizeSmall) + Config.sizeSmall + 1

/-- The parameters of the built block, every one of them open within its bounds. -/
def Config.params : Params where
  memBytes := Config.memBytes
  mfrId := Config.mfrId
  modelId := Config.modelId
  sizeSmall := Config.sizeSmall
  sizeLarge := Config.sizeLarge
  magic := Vector.ofFn fun i => Config.magicByte i.val

/-- P_MAX_RAW_PAYLOAD: the largest raw payload ENCODE_BULK accepts (00_scope R6, 42_sysex R140). -/
def Config.maxRawPayload : Nat := 14335

end Sys2Proof
end

