-- ==== Sys2Proof/Syntax.lean ====
section
/-! DEFINITION. The commands of the block (one constructor per row of the opcode map, 30_encoding R86) and the host
transactions that make up a host program (20_memory R76). -/

namespace Sys2Proof

/-- The three command formats of 30_encoding R85. -/
inductive Format where
  /-- OP alone. -/
  | C0
  /-- OP and the device number DEV. -/
  | CD
  /-- OP and the field id FID. -/
  | CF
  deriving DecidableEq, Repr

/-- One command, one constructor per row of 30_encoding R86. `dev` is the 4-bit field DEV (R82), `fid` the 5-bit field FID
(R83). Every other operand is in A0 to A4 and CTRL (R89). -/
inductive Instr where
  | nop
  | pack
  | unpack
  | checksum
  | verify
  | frameReset
  | frameNext
  | classify
  | decodeBulk
  | encodeBulk (dev : BitVec 4)
  | encodeInit (dev : BitVec 4)
  | encodeClose (dev : BitVec 4)
  | patOpen
  | patGet (fid : BitVec 5)
  | patSectionEnabled (fid : BitVec 5)
  | patWriteSafe (fid : BitVec 5)
  | patOverlay
  | patClearStage
  | patClose
  | softReset
  deriving DecidableEq, Repr

/-- One host bus transaction (20_memory R74 to R76). Addresses and offsets are naturals: the spec gives the host's address
no width, and says what an access at any address does (log 7). -/
inductive HostTxn where
  /-- HOST_MEM_READ(a). -/
  | memRead (a : Nat)
  /-- HOST_MEM_WRITE(a, v). -/
  | memWrite (a : Nat) (v : Byte)
  /-- HOST_CSR_READ(off). -/
  | csrRead (off : Nat)
  /-- HOST_CSR_WRITE(off, v). -/
  | csrWrite (off : Nat) (v : Word)
  deriving DecidableEq, Repr

/-- The registers of the CSR map (10_state R20), each under its own name. -/
inductive Csr where
  | cmd | status | err | errInfo | ctrl | mfrId | modelId | memBytes
  | a0 | a1 | a2 | a3 | a4
  | r0 | r1 | r2 | r3
  | frameCur | frameEnd | patBase | patSize | sizeSmall | sizeLarge
  /-- MAGIC0 to MAGIC3 (10_state R36). -/
  | magic (k : Fin 4)
  /-- WORD0 of entry `e` of the bank (`false` is bank 0, `true` bank 1), 10_state R37, R39. -/
  | fdtWord0 (bank : Bool) (e : BitVec 5)
  /-- WORD1 of entry `e` of the bank, 10_state R38, R39. -/
  | fdtWord1 (bank : Bool) (e : BitVec 5)
  deriving DecidableEq, Repr

end Sys2Proof
end

