-- ==== Sys2Proof/WellFormed.lean ====
section
/-! DEFINITION. What is well formed: a command (its fields at values the encoding admits), a command word (an assigned OP and
no reserved bit set, 30_encoding R84, R87, read off the opcode table's own code and mask columns, apart from the decoder), and
a set of parameters (the bounds of 00_scope R6). -/

namespace Sys2Proof

/-- DEV is a number of 4 bits and FID one of 5 (30_encoding R82, R83). The fields' types hold only such values, so every
command passes. -/
def Instr.wellFormed : Instr → Bool
  | .encodeBulk dev | .encodeInit dev | .encodeClose dev => decide (dev.toNat < 16)
  | .patGet fid | .patSectionEnabled fid | .patWriteSafe fid => decide (fid.toNat < 32)
  | .nop | .pack | .unpack | .checksum | .verify | .frameReset | .frameNext | .classify | .decodeBulk
  | .patOpen | .patOverlay | .patClearStage | .patClose | .softReset => true

/-- One row of the opcode table: the bits a word of the row has where `mask` is 1. -/
structure OpcodeRow where
  /-- The row's "match" column. -/
  code : Word
  /-- The row's "mask" column. -/
  mask : Word
  deriving DecidableEq, Repr

/-- The opcode table's twenty rows, in its order. -/
def opcodeTable : List OpcodeRow :=
  [⟨0x00#32, 0xFFFFFFFF#32⟩, ⟨0x01#32, 0xFFFFFFFF#32⟩, ⟨0x02#32, 0xFFFFFFFF#32⟩, ⟨0x03#32, 0xFFFFFFFF#32⟩,
   ⟨0x04#32, 0xFFFFFFFF#32⟩, ⟨0x10#32, 0xFFFFFFFF#32⟩, ⟨0x11#32, 0xFFFFFFFF#32⟩, ⟨0x12#32, 0xFFFFFFFF#32⟩,
   ⟨0x13#32, 0xFFFFFFFF#32⟩, ⟨0x14#32, 0xFFFFF0FF#32⟩, ⟨0x15#32, 0xFFFFF0FF#32⟩, ⟨0x16#32, 0xFFFFF0FF#32⟩,
   ⟨0x20#32, 0xFFFFFFFF#32⟩, ⟨0x21#32, 0xFFE0FFFF#32⟩, ⟨0x22#32, 0xFFE0FFFF#32⟩, ⟨0x23#32, 0xFFE0FFFF#32⟩,
   ⟨0x24#32, 0xFFFFFFFF#32⟩, ⟨0x25#32, 0xFFFFFFFF#32⟩, ⟨0x26#32, 0xFFFFFFFF#32⟩, ⟨0x3F#32, 0xFFFFFFFF#32⟩]

/-- A word is a legal command when some row of the table matches it: its OP is assigned and its reserved bits are 0
(30_encoding R84, R87). -/
def commandLegal (w : Word) : Bool :=
  opcodeTable.any fun r => w &&& r.mask == r.code

/-- The bounds of 00_scope R6 on the parameters; the 7-bit ones are bounded by their types. -/
def Params.wellFormed (p : Params) : Bool :=
  decide (65536 ≤ p.memBytes) && decide (p.memBytes ≤ 2 ^ 31) && decide (17 ≤ p.sizeSmall)
    && decide (p.sizeSmall < p.sizeLarge) && decide (p.sizeLarge ≤ 65536)

end Sys2Proof
end

