-- ==== Sys2Proof/Decode.lean ====
section
/-! DEFINITION. The decoder of a command word, total and rejecting by name, and after it the encoder, both from the encoding
tables of 30_encoding R81 to R87. -/

namespace Sys2Proof

/-- Why a word names no command. Either way the command faults ILLEGAL_COMMAND (30_encoding R87). -/
inductive DecodeError where
  /-- OP is not in the opcode map of R86. -/
  | unassignedOpcode (op : Byte)
  /-- A bit that the format does not assign is 1 (R84). -/
  | reservedBitSet (w : Word)
  deriving DecidableEq, Repr

/-- OP = CMD[7:0] (30_encoding R81). -/
def opField (w : Word) : Byte := w.extractLsb' 0 8

/-- DEV = CMD[11:8] (30_encoding R82). -/
def devField (w : Word) : BitVec 4 := w.extractLsb' 8 4

/-- FID = CMD[20:16] (30_encoding R83). -/
def fidField (w : Word) : BitVec 5 := w.extractLsb' 16 5

/-- Format C0: CMD[31:8] must be 0 (30_encoding R84). -/
def decodeC0 (w : Word) (i : Instr) : Except DecodeError Instr :=
  if w.extractLsb' 8 24 = 0#24 then .ok i else .error (.reservedBitSet w)

/-- Format CD: CMD[31:12] must be 0 (30_encoding R84). -/
def decodeCD (w : Word) (f : BitVec 4 → Instr) : Except DecodeError Instr :=
  if w.extractLsb' 12 20 = 0#20 then .ok (f (devField w)) else .error (.reservedBitSet w)

/-- Format CF: CMD[31:21] and CMD[15:8] must be 0 (30_encoding R84). -/
def decodeCF (w : Word) (f : BitVec 5 → Instr) : Except DecodeError Instr :=
  if w.extractLsb' 21 11 = 0#11 ∧ w.extractLsb' 8 8 = 0#8 then .ok (f (fidField w)) else .error (.reservedBitSet w)

/-- The opcode map of 30_encoding R86. -/
def decode (w : Word) : Except DecodeError Instr :=
  match (opField w).toNat with
  | 0x00 => decodeC0 w .nop
  | 0x01 => decodeC0 w .pack
  | 0x02 => decodeC0 w .unpack
  | 0x03 => decodeC0 w .checksum
  | 0x04 => decodeC0 w .verify
  | 0x10 => decodeC0 w .frameReset
  | 0x11 => decodeC0 w .frameNext
  | 0x12 => decodeC0 w .classify
  | 0x13 => decodeC0 w .decodeBulk
  | 0x14 => decodeCD w .encodeBulk
  | 0x15 => decodeCD w .encodeInit
  | 0x16 => decodeCD w .encodeClose
  | 0x20 => decodeC0 w .patOpen
  | 0x21 => decodeCF w .patGet
  | 0x22 => decodeCF w .patSectionEnabled
  | 0x23 => decodeCF w .patWriteSafe
  | 0x24 => decodeC0 w .patOverlay
  | 0x25 => decodeC0 w .patClearStage
  | 0x26 => decodeC0 w .patClose
  | 0x3F => decodeC0 w .softReset
  | _ => .error (.unassignedOpcode (opField w))

/-- A word of format CD (30_encoding R85). -/
def encodeCD (op : Byte) (dev : BitVec 4) : Word := 0#20 ++ dev ++ op

/-- A word of format CF (30_encoding R85). -/
def encodeCF (op : Byte) (fid : BitVec 5) : Word := 0#11 ++ fid ++ 0#8 ++ op

/-- The command word of a command (30_encoding R85, R86). -/
def encode : Instr → Word
  | .nop => 0x00000000#32
  | .pack => 0x00000001#32
  | .unpack => 0x00000002#32
  | .checksum => 0x00000003#32
  | .verify => 0x00000004#32
  | .frameReset => 0x00000010#32
  | .frameNext => 0x00000011#32
  | .classify => 0x00000012#32
  | .decodeBulk => 0x00000013#32
  | .encodeBulk dev => encodeCD 0x14#8 dev
  | .encodeInit dev => encodeCD 0x15#8 dev
  | .encodeClose dev => encodeCD 0x16#8 dev
  | .patOpen => 0x00000020#32
  | .patGet fid => encodeCF 0x21#8 fid
  | .patSectionEnabled fid => encodeCF 0x22#8 fid
  | .patWriteSafe fid => encodeCF 0x23#8 fid
  | .patOverlay => 0x00000024#32
  | .patClearStage => 0x00000025#32
  | .patClose => 0x00000026#32
  | .softReset => 0x0000003F#32

/-- What the decoder reads from a row's bits, numbered as the opcode table numbers them. A command is one 32-bit word
(30_encoding R80). -/
def decodeTableWord (nbits w : Nat) : Option Instr :=
  match decode (BitVec.ofNat 32 (w % 2 ^ nbits)) with
  | .ok i => some i
  | .error _ => none

end Sys2Proof
end

