-- ==== Sys2Proof/Machine/State.lean ====
section
/-! DEFINITION. The state of the block, the ways a step can stop, and the state after power-on reset (10_state; 70_reset R241).
The host's script, its position in it and the value its last read returned stand here too (20_memory R76, 10_state R46), so that
one deterministic step performs the next transaction. -/

namespace Sys2Proof.Machine

/-- One entry of the field descriptor table, two 32-bit words (10_state R37, R38). Their fields are read in
Machine/Operands.lean. -/
structure FdtEntry where
  word0 : Word
  word1 : Word
  deriving DecidableEq, Repr

/-- A bank of 32 entries (10_state R37). -/
abbrev FdtBank := Vector FdtEntry 32

/-- Every piece of state the spec gives the block (INVENTORY.md lists each with its rule), and the host's side of the bus. -/
structure State where
  /-- The read-only parameter registers MFR_ID, MODEL_ID, MEM_BYTES, SIZE_SMALL, SIZE_LARGE, MAGIC0..3 (10_state R34 to R36). -/
  params : Params
  /-- CMD (R21). -/
  cmd : Word
  /-- STATUS (R22); its bits are named in Machine/Flags.lean. -/
  status : Word
  /-- ERR (R24). -/
  err : Word
  /-- ERR_INFO (R25). -/
  errInfo : Word
  /-- CTRL (R26 to R29). -/
  ctrl : Word
  /-- A0 to A4 (R30). -/
  a0 : Word
  a1 : Word
  a2 : Word
  a3 : Word
  a4 : Word
  /-- R0 to R3 (R31). -/
  r0 : Word
  r1 : Word
  r2 : Word
  r3 : Word
  /-- FRAME_CUR and FRAME_END (R32). -/
  frameCur : Word
  frameEnd : Word
  /-- PAT_BASE and PAT_SIZE (R33). -/
  patBase : Word
  patSize : Word
  /-- FDT bank 0 and bank 1 (R37 to R39). -/
  fdt0 : FdtBank
  fdt1 : FdtBank
  /-- OVL, the staged bytes by buffer offset (R43); an unlisted offset has not been written since power-on. -/
  ovl : List Host.Cell
  /-- MASK, the offsets whose bit is 1, rising (R43). -/
  mask : List Nat
  /-- MEM by address, strictly rising; an unlisted address has not been written since power-on (R44, R242). -/
  mem : List Host.Cell
  /-- The host program, a finite sequence of transactions (R76). The model's field (log 4). -/
  script : List HostTxn
  /-- The index of the next transaction (R46). The model's field (log 4). -/
  pc : Nat
  /-- What the last host read returned (R74, R75). The model's field (log 5). -/
  rdata : Word
  deriving DecidableEq, Repr

/-- The model-level stops. An architectural fault of the block is no stop: it is a next state (60_exceptions R212). -/
inductive Fault where
  /-- UNINIT_READ (60_exceptions R225): a command or a host read needs a MEM byte that nothing has written since power-on.
  Raised by every MEM read. Safe: the block goes on with a value the spec does not define. -/
  | uninitRead (a : Nat)
  /-- A command reads an address at or above P_MEM_BYTES, which 20_memory R60 says does not exist. No run from reset raises
  it, because every range is checked first. Raised by every MEM read of a command. Safe. -/
  | noSuchAddress (a : Nat)
  deriving DecidableEq, Repr

/-- The reasons a step has no meaning. -/
inductive Refusal where
  /-- The instruction of that mnemonic has no meaning in the model yet. Raised by arms of exec alone. Safe. No arm does. -/
  | notModelled (mnemonic : String)
  deriving DecidableEq, Repr

/-- The block of parameters `p` right after power-on reset (70_reset R241), with no host program (log 4). -/
def State.resetWith (p : Params) : State where
  params := p
  cmd := 0x00000000#32
  status := 0x00000000#32
  err := 0x00000000#32
  errInfo := 0x00000000#32
  ctrl := 0x00000004#32
  a0 := 0#32
  a1 := 0#32
  a2 := 0#32
  a3 := 0#32
  a4 := 0#32
  r0 := 0#32
  r1 := 0#32
  r2 := 0#32
  r3 := 0#32
  frameCur := 0#32
  frameEnd := 0#32
  patBase := 0#32
  patSize := 0#32
  fdt0 := Vector.replicate 32 ⟨0#32, 0#32⟩
  fdt1 := Vector.replicate 32 ⟨0#32, 0#32⟩
  ovl := []
  mask := []
  mem := []
  script := []
  pc := 0
  rdata := 0#32

/-- Power-on reset (70_reset R240, R241), whatever the open parameters are. -/
def State.reset : State := State.resetWith Config.params

end Sys2Proof.Machine
end

