-- ==== Sys2Proof/Machine/Flags.lean ====
section
/-! DEFINITION. STATUS: its bits by name (10_state R22), how a bit is read and written, the warnings (60_exceptions R215) and the
host's write-one-to-clear (10_state R23). -/

namespace Sys2Proof.Machine

/-- The fields of STATUS (10_state R22). Every one is a single bit. -/
inductive StatusBit where
  | busy | err | errSticky
  | wNonclean | wDiscard | wBcMismatch | wCsBad | wBusErr
  | patOpen | patVariant | frameActive
  deriving DecidableEq, Repr

/-- Where each field lies in STATUS (10_state R22). -/
def StatusBit.index : StatusBit → Nat
  | .busy => 0
  | .err => 1
  | .errSticky => 2
  | .wNonclean => 8
  | .wDiscard => 9
  | .wBcMismatch => 10
  | .wCsBad => 11
  | .wBusErr => 12
  | .patOpen => 16
  | .patVariant => 17
  | .frameActive => 18

/-- The word with bit `i` (below 32) set to `b` and every other bit as it was. -/
def putBit (w : Word) (i : Nat) (b : Bool) : Word :=
  if b then w ||| (1#32 <<< i) else w &&& ~~~(1#32 <<< i)

/-- A field of STATUS. -/
def State.flag (s : State) (b : StatusBit) : Bool := s.status.getLsbD b.index

/-- The state with one field of STATUS written. -/
def State.setFlag (s : State) (b : StatusBit) (v : Bool) : State :=
  { s with status := putBit s.status b.index v }

/-- `warn W_X` where the condition holds (00_scope R12, 60_exceptions R215): the bit is set, never cleared. -/
def State.warnIf (s : State) (c : Bool) (b : StatusBit) : State :=
  if c then s.setFlag b true else s

/-- The W1C bits of STATUS: 2, 8, 9, 10, 11 and 12 (10_state R23). -/
def w1cMask : Word := 0x00001F04#32

/-- A host write of `v` to STATUS clears the W1C bits where `v` is 1 and changes no other bit (10_state R23). -/
def State.clearW1C (s : State) (v : Word) : State :=
  { s with status := s.status &&& ~~~(v &&& w1cMask) }

/-- The FDT bank in use, STATUS.PAT_VARIANT: `false` is bank 0, `true` bank 1 (10_state R22, 43_pattern R171). -/
def State.variant (s : State) : Bool := s.flag .patVariant

end Sys2Proof.Machine
end

