-- ==== Sys2Proof/Machine/Ops.lean ====
section
/-! DEFINITION. The operations every command shares: MEM by byte and by range (00_scope R11), the range checks (R13), fault
entry and the end of a command (60_exceptions R212, 30_encoding R95), the staging overlay (10_state R43). -/

namespace Sys2Proof.Machine

/-! ### Sparse byte arrays -/

/-- What the list holds at address `a`, if anything. -/
def cellRead : List Host.Cell → Nat → Option Byte
  | [], _ => none
  | (b, w) :: rest, a => if b = a then some w else cellRead rest a

/-- The list with `v` at `a` and nothing else changed; a list with rising addresses stays one. -/
def cellWrite : List Host.Cell → Nat → Byte → List Host.Cell
  | [], a, v => [(a, v)]
  | (b, w) :: rest, a, v =>
    if a < b then (a, v) :: (b, w) :: rest
    else if a = b then (a, v) :: rest
    else (b, w) :: cellWrite rest a v

/-- The bytes of a sequence written at `a`, `a + 1`, ... -/
def cellWriteAll : List Host.Cell → Nat → List Byte → List Host.Cell
  | m, _, [] => m
  | m, a, v :: vs => cellWriteAll (cellWrite m a v) (a + 1) vs

/-- The canonical form of MEM and OVL: addresses strictly rising. Nothing listed equals what an unlisted address reads as,
since an unlisted address has no value (MEM) or a free one (OVL). -/
def Memory.wf : List Host.Cell → Bool
  | [] => true
  | [_] => true
  | (a, _) :: (b, w) :: rest => decide (a < b) && Memory.wf ((b, w) :: rest)

/-- The offset added to a rising list of offsets. -/
def offsetInsert : List Nat → Nat → List Nat
  | [], i => [i]
  | j :: rest, i =>
    if i < j then i :: j :: rest
    else if i = j then j :: rest
    else j :: offsetInsert rest i

/-! ### Faults (60_exceptions R211, R212) -/

/-- The architectural faults (60_exceptions R211). CHECKSUM_MISMATCH and UNKNOWN_OPCODE are reserved and never raised
(R226, R227), so they are not here. -/
inductive FaultCode where
  | malformedMessage | unsupportedMfrModel | invalidFileSize | invalidFileHeader | unsafeFieldWrite
  | illegalCommand | notReady | bounds | capacity | overlap | payloadTooLong | badField
  | descriptorInvalid | reservedControl | noncleanInput | badArgument
  deriving DecidableEq, Repr

/-- ERR.CODE of each fault (60_exceptions R211). -/
def FaultCode.code : FaultCode → Byte
  | .malformedMessage => 0x01#8
  | .unsupportedMfrModel => 0x02#8
  | .invalidFileSize => 0x03#8
  | .invalidFileHeader => 0x04#8
  | .unsafeFieldWrite => 0x07#8
  | .illegalCommand => 0x10#8
  | .notReady => 0x11#8
  | .bounds => 0x12#8
  | .capacity => 0x13#8
  | .overlap => 0x14#8
  | .payloadTooLong => 0x15#8
  | .badField => 0x16#8
  | .descriptorInvalid => 0x17#8
  | .reservedControl => 0x18#8
  | .noncleanInput => 0x19#8
  | .badArgument => 0x1A#8

/-- How the body of a command ends early: `raise Fault(code, info)` (00_scope R12), or a model-level stop (R11). -/
inductive Stop where
  | raise (code : FaultCode) (info : Nat)
  | halt (f : Fault)
  deriving DecidableEq, Repr

/-- A command's body or a check of it: a result, or an early end. -/
abbrev Cmd (α : Type) := Except Stop α

/-- `raise Fault(code, info)` (00_scope R12). -/
def raise {α : Type} (code : FaultCode) (info : Nat) : Cmd α := .error (.raise code info)

/-- `if c then raise Fault(code, info)`. -/
def raiseIf (c : Bool) (code : FaultCode) (info : Nat) : Cmd Unit :=
  if c then .error (.raise code info) else .ok ()

/-- Fault entry (60_exceptions R212): ERR holds the code and CMD[7:0], ERR_INFO the info, STATUS.ERR and ERR_STICKY are set;
nothing else changes. ERR[31:16] read as 0 (10_state R24). -/
def State.raiseFault (s : State) (code : FaultCode) (info : Nat) : State :=
  { (s.setFlag .err true).setFlag .errSticky true with
    err := 0#16 ++ s.cmd.extractLsb' 0 8 ++ code.code
    errInfo := BitVec.ofNat 32 info }

/-- The end of a command: its body's state where it completes, fault entry on the state before it where it raises
(60_exceptions R210, R213), and the model's stop where it stops. -/
def commit (s : State) (body : Cmd State) : Host.Outcome State Fault Refusal :=
  match body with
  | .ok t => .next t
  | .error (.raise code info) => .next (s.raiseFault code info)
  | .error (.halt f) => .fault f

/-- The start of a command (30_encoding R95): CMD holds the word, STATUS.ERR and ERR are 0, STATUS.BUSY is 1. -/
def State.beginCommand (s : State) (w : Word) : State :=
  { (s.setFlag .err false).setFlag .busy true with cmd := w, err := 0x00000000#32 }

/-- The end of the step of a CMD write: STATUS.BUSY is 0 again (60_exceptions R212, 70_reset R246). -/
def State.endCommand (s : State) : State := s.setFlag .busy false

/-- The outcome with a next state changed and a stop left as it is. -/
def onNext (f : State → State) : Host.Outcome State Fault Refusal → Host.Outcome State Fault Refusal
  | .next t => .next (f t)
  | .fault r => .fault r
  | .refused r => .refused r

/-! ### Ranges (00_scope R13) -/

/-- RangeOK(a, n) (00_scope R13). -/
def State.rangeOK (s : State) (a n : Nat) : Bool := n == 0 || decide (a + n ≤ s.params.memBytes)

/-- Overlap(a, n, b, m) (00_scope R13). -/
def overlaps (a n b m : Nat) : Bool := decide (n > 0) && decide (m > 0) && decide (a < b + m) && decide (b < a + n)

/-- CheckSrc(a, n) (00_scope R13). -/
def checkSrc (s : State) (a n : Nat) : Cmd Unit := raiseIf (!s.rangeOK a n) .bounds a

/-- CheckDst(a, n, cap) (00_scope R13). -/
def checkDst (s : State) (a n cap : Nat) : Cmd Unit := do
  raiseIf (decide (n > cap)) .capacity n
  raiseIf (!s.rangeOK a n) .bounds a

/-! ### MEM (00_scope R11, 60_exceptions R225) -/

/-- The byte of MEM at `a`, where `a` is an address of MEM and something has written it. -/
def State.peek (s : State) (a : Nat) : Option Byte :=
  if a < s.params.memBytes then cellRead s.mem a else none

/-- MEM[a]: the byte last written, UNINIT_READ where there is none (60_exceptions R225), and a stop of its own beyond
P_MEM_BYTES (log 8). -/
def loadByte (s : State) (a : Nat) : Cmd Byte :=
  if a < s.params.memBytes then
    match cellRead s.mem a with
    | some v => .ok v
    | none => .error (.halt (.uninitRead a))
  else .error (.halt (.noSuchAddress a))

/-- MemRead(a, n) (00_scope R11). -/
def loadBytes (s : State) (a : Nat) : Nat → Cmd (List Byte)
  | 0 => .ok []
  | n + 1 => do
    let v ← loadByte s a
    let vs ← loadBytes s (a + 1) n
    .ok (v :: vs)

/-- MemWrite(a, len(vs), vs) (00_scope R11); its callers have checked the range (R13). -/
def State.storeBytes (s : State) (a : Nat) (vs : List Byte) : State :=
  { s with mem := cellWriteAll s.mem a vs }

/-- Two bytes read most significant first (20_memory R62). -/
def u16be (hi lo : Byte) : Nat := hi.toNat * 256 + lo.toNat

/-! ### Result registers (10_state R31; a value is reduced mod 2^32, 00_scope R8) -/

/-- `R0 <- v`. -/
def State.setR0 (s : State) (v : Nat) : State := { s with r0 := BitVec.ofNat 32 v }
/-- `R1 <- v`. -/
def State.setR1 (s : State) (v : Nat) : State := { s with r1 := BitVec.ofNat 32 v }
/-- `R2 <- v`. -/
def State.setR2 (s : State) (v : Nat) : State := { s with r2 := BitVec.ofNat 32 v }
/-- `R3 <- v`. -/
def State.setR3 (s : State) (v : Nat) : State := { s with r3 := BitVec.ofNat 32 v }

/-! ### The staging overlay (10_state R43) -/

/-- MASK[i]. -/
def State.masked (s : State) (i : Nat) : Bool := s.mask.contains i

/-- OVL[i]: the byte last written, or the free value it has had since power-on (log 3). -/
def State.ovlByte (s : State) (i : Nat) : Byte := (cellRead s.ovl i).getD (Config.ovlPowerOn i)

/-- `OVL[off+j] <- vs[j]; MASK[off+j] <- 1` for every j (43_pattern R181). -/
def State.stage (s : State) (off : Nat) (vs : List Byte) : State :=
  { s with
    ovl := cellWriteAll s.ovl off vs
    mask := (List.range' off vs.length).foldl offsetInsert s.mask }

/-- `MASK[i] <- 0 for all i`; OVL keeps its bytes (43_pattern R185). -/
def State.clearStage (s : State) : State := { s with mask := [] }

/-- `STATUS.PAT_OPEN <- 0; MASK[i] <- 0 for all i` (43_pattern R186, 10_state R40). -/
def State.closePattern (s : State) : State := (s.setFlag .patOpen false).clearStage

end Sys2Proof.Machine
end

