-- ==== Sys2Proof/Machine/Operands.lean ====
section
/-! DEFINITION. What commands read their operands from: the fields of CTRL (10_state R26 to R29), the layouts of A3
(30_encoding R88), the fields of an FDT entry (10_state R37, R38), the open bank's entry and the element of a field
(43_pattern R174), and the parameter bytes (00_scope R6). -/

namespace Sys2Proof.Machine

/-! ### CTRL -/

/-- CTRL.CS_SPAN (10_state R27). -/
def State.csSpan (s : State) : BitVec 2 := s.ctrl.extractLsb' 0 2

/-- CTRL.PROV_EN (10_state R28). -/
def State.provEn (s : State) : Bool := s.ctrl.getLsbD 2

/-- CTRL.UNPACK_STRICT (10_state R29). -/
def State.unpackStrict (s : State) : Bool := s.ctrl.getLsbD 3

/-! ### A3 (30_encoding R88) -/

/-- Layout ADDR3: the reserved bits [31:23], [15] and [7] are 0. -/
def addr3Clean (v : Word) : Bool := v.extractLsb' 23 9 == 0#9 && !v.getLsbD 15 && !v.getLsbD 7

/-- Layout ADDR3: AH = [22:16]. -/
def addr3High (v : Word) : BitVec 7 := v.extractLsb' 16 7

/-- Layout ADDR3: AM = [14:8]. -/
def addr3Mid (v : Word) : BitVec 7 := v.extractLsb' 8 7

/-- Layout ADDR3: AL = [6:0]. -/
def addr3Low (v : Word) : BitVec 7 := v.extractLsb' 0 7

/-- Layout EXP8: bits [31:8] are 0. -/
def exp8Clean (v : Word) : Bool := v.extractLsb' 8 24 == 0#24

/-- Layout EXP8: the expected checksum byte, [7:0]. -/
def exp8Byte (v : Word) : Byte := v.extractLsb' 0 8

/-! ### Parameters as bytes -/

/-- P_MFR_ID as a byte (42_sysex R134, R143). -/
def mfrByte (p : Params) : Byte := p.mfrId.setWidth 8

/-- P_MODEL_ID as a byte (42_sysex R134, R143). -/
def modelByte (p : Params) : Byte := p.modelId.setWidth 8

/-- P_MAGIC as 16 bytes (43_pattern R172). -/
def magicBytes (p : Params) : List Byte := p.magic.toList.map fun b => b.setWidth 8

/-! ### The field descriptor table (10_state R37, R38) -/

/-- CLASS of an entry (10_state R38). -/
inductive FieldClass where
  | preserve | safe | provisional
  /-- Value 3, invalid. -/
  | reserved
  deriving DecidableEq, Repr

/-- TYPE of an entry (10_state R38). -/
inductive FieldType where
  | bytes | u8 | u16be
  /-- Value 3, invalid. -/
  | reserved
  deriving DecidableEq, Repr

/-- START, WORD0[15:0]. -/
def FdtEntry.start (e : FdtEntry) : Nat := (e.word0.extractLsb' 0 16).toNat

/-- ELEM_LEN, WORD0[23:16]. -/
def FdtEntry.elemLen (e : FdtEntry) : Nat := (e.word0.extractLsb' 16 8).toNat

/-- COUNT, WORD1[15:0]. -/
def FdtEntry.count (e : FdtEntry) : Nat := (e.word1.extractLsb' 0 16).toNat

/-- CLASS, WORD1[17:16]. -/
def FdtEntry.cls (e : FdtEntry) : FieldClass :=
  match (e.word1.extractLsb' 16 2).toNat with
  | 0 => .preserve
  | 1 => .safe
  | 2 => .provisional
  | _ => .reserved

/-- TYPE, WORD1[19:18]. -/
def FdtEntry.typ (e : FdtEntry) : FieldType :=
  match (e.word1.extractLsb' 18 2).toNat with
  | 0 => .bytes
  | 1 => .u8
  | 2 => .u16be
  | _ => .reserved

/-- VALID, WORD1[31]. -/
def FdtEntry.valid (e : FdtEntry) : Bool := e.word1.getLsbD 31

/-- The bytes an entry covers: START .. START + ELEM_LEN·COUNT − 1 (10_state R38). -/
def FdtEntry.size (e : FdtEntry) : Nat := e.elemLen * e.count

/-- The entry is of a class that PAT_WRITE_SAFE may write (43_pattern R173, R182). -/
def FdtEntry.writable (e : FdtEntry) : Bool := e.cls == .safe || e.cls == .provisional

/-- Bank 0 or bank 1 (10_state R37). -/
def State.bank (s : State) (b : Bool) : FdtBank := if b then s.fdt1 else s.fdt0

/-- FDT[STATUS.PAT_VARIANT][FID] (30_encoding R83). -/
def State.entry (s : State) (fid : BitVec 5) : FdtEntry := (s.bank s.variant)[fid.toFin]

/-- ERR_INFO of BAD_FIELD: FID | (reason << 8) (60_exceptions R211). -/
def badFieldInfo (fid : BitVec 5) (reason : Nat) : Nat := fid.toNat ||| (reason <<< 8)

/-- ElemSel(FID, i) (43_pattern R174): the entry and the element's offset in the buffer. -/
def elemSel (s : State) (fid : BitVec 5) (i : Nat) : Cmd (FdtEntry × Nat) := do
  let e := s.entry fid
  raiseIf (!e.valid) .badField (badFieldInfo fid 0)
  raiseIf (decide (i ≥ e.count)) .badField (badFieldInfo fid 1)
  .ok (e, e.start + i * e.elemLen)

/-- `if STATUS.PAT_OPEN = 0: raise Fault(NOT_READY, 0)` (43_pattern R177, R179, R181, R183). -/
def requireOpen (s : State) : Cmd Unit := raiseIf (!s.flag .patOpen) .notReady 0

end Sys2Proof.Machine
end

