-- ==== Sys2Proof/Machine/Csr.lean ====
section
/-! DEFINITION. The CSR map and what a host read or write of each register does (10_state R20 to R45), but for a write of CMD,
which runs a command (Machine/HostBus.lean). -/

namespace Sys2Proof.Machine

/-- FDT words: WORD0 of entry e of bank b at 0x100 + 0x100·b + 8·e, WORD1 at that offset + 4 (10_state R39). -/
def fdtAt (off : Nat) : Option Csr :=
  if 0x100 ≤ off ∧ off < 0x300 then
    if off % 8 = 0 then some (.fdtWord0 (decide (0x200 ≤ off)) (BitVec.ofNat 5 (off % 0x100 / 8)))
    else if off % 8 = 4 then some (.fdtWord1 (decide (0x200 ≤ off)) (BitVec.ofNat 5 (off % 0x100 / 8)))
    else none
  else none

/-- The register at a byte offset (10_state R20, R39); `none` is an unmapped or misaligned offset (R45). -/
def csrAt (off : Nat) : Option Csr :=
  match off with
  | 0x000 => some .cmd
  | 0x004 => some .status
  | 0x008 => some .err
  | 0x00C => some .errInfo
  | 0x010 => some .ctrl
  | 0x014 => some .mfrId
  | 0x018 => some .modelId
  | 0x01C => some .memBytes
  | 0x020 => some .a0
  | 0x024 => some .a1
  | 0x028 => some .a2
  | 0x02C => some .a3
  | 0x030 => some .a4
  | 0x040 => some .r0
  | 0x044 => some .r1
  | 0x048 => some .r2
  | 0x04C => some .r3
  | 0x050 => some .frameCur
  | 0x054 => some .frameEnd
  | 0x058 => some .patBase
  | 0x05C => some .patSize
  | 0x060 => some .sizeSmall
  | 0x064 => some .sizeLarge
  | 0x070 => some (.magic 0)
  | 0x074 => some (.magic 1)
  | 0x078 => some (.magic 2)
  | 0x07C => some (.magic 3)
  | n => fdtAt n

/-- The byte offset of a register (10_state R20, R39). -/
def csrOffset : Csr → Nat
  | .cmd => 0x000
  | .status => 0x004
  | .err => 0x008
  | .errInfo => 0x00C
  | .ctrl => 0x010
  | .mfrId => 0x014
  | .modelId => 0x018
  | .memBytes => 0x01C
  | .a0 => 0x020
  | .a1 => 0x024
  | .a2 => 0x028
  | .a3 => 0x02C
  | .a4 => 0x030
  | .r0 => 0x040
  | .r1 => 0x044
  | .r2 => 0x048
  | .r3 => 0x04C
  | .frameCur => 0x050
  | .frameEnd => 0x054
  | .patBase => 0x058
  | .patSize => 0x05C
  | .sizeSmall => 0x060
  | .sizeLarge => 0x064
  | .magic k => 0x070 + 4 * k.val
  | .fdtWord0 b e => 0x100 + 0x100 * b.toNat + 8 * e.toNat
  | .fdtWord1 b e => 0x100 + 0x100 * b.toNat + 8 * e.toNat + 4

/-- MAGICk: bytes 4k .. 4k+3 of P_MAGIC, the first in bits [31:24] (10_state R36). -/
def magicWord (p : Params) (k : Fin 4) : Word :=
  let b (j : Nat) : Byte := (magicBytes p).getD (4 * k.val + j) 0x00#8
  b 0 ++ b 1 ++ b 2 ++ b 3

/-- What a host read of a register returns (10_state R20 to R39). It has no side effect (20_memory R66). -/
def readCsr (s : State) : Csr → Word
  | .cmd => s.cmd
  | .status => s.status
  | .err => s.err
  | .errInfo => s.errInfo
  | .ctrl => s.ctrl
  | .mfrId => s.params.mfrId.setWidth 32
  | .modelId => s.params.modelId.setWidth 32
  | .memBytes => BitVec.ofNat 32 s.params.memBytes
  | .a0 => s.a0
  | .a1 => s.a1
  | .a2 => s.a2
  | .a3 => s.a3
  | .a4 => s.a4
  | .r0 => s.r0
  | .r1 => s.r1
  | .r2 => s.r2
  | .r3 => s.r3
  | .frameCur => s.frameCur
  | .frameEnd => s.frameEnd
  | .patBase => s.patBase
  | .patSize => s.patSize
  | .sizeSmall => BitVec.ofNat 32 s.params.sizeSmall
  | .sizeLarge => BitVec.ofNat 32 s.params.sizeLarge
  | .magic k => magicWord s.params k
  | .fdtWord0 b e => ((s.bank b)[e.toFin]).word0
  | .fdtWord1 b e => ((s.bank b)[e.toFin]).word1

/-- The writable bits of CTRL, [3:0] (10_state R26). -/
def ctrlMask : Word := 0x0000000F#32

/-- The writable bits of WORD0, [23:0] (10_state R37). -/
def fdtWord0Mask : Word := 0x00FFFFFF#32

/-- The writable bits of WORD1, [31] and [19:0] (10_state R38). -/
def fdtWord1Mask : Word := 0x800FFFFF#32

/-- The state with one entry of one bank replaced. -/
def State.setEntry (s : State) (b : Bool) (e : BitVec 5) (v : FdtEntry) : State :=
  if b then { s with fdt1 := s.fdt1.set e.toNat v e.isLt } else { s with fdt0 := s.fdt0.set e.toNat v e.isLt }

/-- A write to the bank in use of an open pattern closes the pattern (10_state R40, 70_reset R251). -/
def State.closeIfInUse (s : State) (b : Bool) : State :=
  if s.flag .patOpen && s.variant == b then s.closePattern else s

/-- What a host write of `v` to a register other than CMD does (10_state R20, R23, R26, R30, R37 to R40). A write to a
read-only register is ignored, without W_BUSERR (R45). -/
def writeCsr (s : State) (c : Csr) (v : Word) : State :=
  match c with
  | .status => s.clearW1C v
  | .ctrl => { s with ctrl := v &&& ctrlMask }
  | .a0 => { s with a0 := v }
  | .a1 => { s with a1 := v }
  | .a2 => { s with a2 := v }
  | .a3 => { s with a3 := v }
  | .a4 => { s with a4 := v }
  | .fdtWord0 b e =>
    (s.setEntry b e ⟨v &&& fdtWord0Mask, ((s.bank b)[e.toFin]).word1⟩).closeIfInUse b
  | .fdtWord1 b e =>
    (s.setEntry b e ⟨((s.bank b)[e.toFin]).word0, v &&& fdtWord1Mask⟩).closeIfInUse b
  | .cmd | .err | .errInfo | .mfrId | .modelId | .memBytes | .r0 | .r1 | .r2 | .r3 | .frameCur | .frameEnd
  | .patBase | .patSize | .sizeSmall | .sizeLarge | .magic _ => s

end Sys2Proof.Machine
end

