-- ==== Sys2Proof/Machine/Bitpack.lean ====
section
/-! DEFINITION. The 7-bit packing codec (40_bitpack): PackFn, UnpackFn, PACK and UNPACK. -/

namespace Sys2Proof.Machine

/-- P(n), the packed length of n raw bytes (40_bitpack R102). -/
def packedLen (n : Nat) : Nat := 8 * (n / 7) + if n % 7 = 0 then 0 else n % 7 + 1

/-- U(L), the unpacked length of L packed bytes (40_bitpack R103). -/
def unpackedLen (l : Nat) : Nat := 7 * (l / 8) + if l % 8 ≤ 1 then 0 else l % 8 - 1

/-- The group header's part from raw byte `j` on: bit 7 of raw byte `j` goes to bit 6 − j (40_bitpack R101). -/
def packHeader : Nat → List Byte → Byte
  | _, [] => 0x00#8
  | j, b :: rest => ((b >>> 7) <<< (6 - j)) ||| packHeader (j + 1) rest

/-- One packed group of up to 7 raw bytes: the header, then each byte with bit 7 clear (40_bitpack R105). -/
def packGroup (chunk : List Byte) : List Byte :=
  packHeader 0 chunk :: chunk.map fun b => b &&& 0x7F#8

/-- The first `k` groups of 7 raw bytes, packed (40_bitpack R105). -/
def packGroups : Nat → List Byte → List Byte
  | 0, _ => []
  | k + 1, raw => packGroup (raw.take 7) ++ packGroups k (raw.drop 7)

/-- PackFn (40_bitpack R105): ceil(n/7) groups. -/
def packFn (raw : List Byte) : List Byte := packGroups ((raw.length + 6) / 7) raw

/-- The data bytes of a group from byte `j` on, bit 7 of each taken from header bit 6 − j (40_bitpack R106). -/
def unpackData (h : Byte) : Nat → List Byte → List Byte
  | _, [] => []
  | j, d :: rest => ((d &&& 0x7F#8) ||| (((h >>> (6 - j)) &&& 0x01#8) <<< 7)) :: unpackData h (j + 1) rest

/-- One packed group of up to 8 bytes, unpacked; a lone header gives nothing (40_bitpack R104, R106). -/
def unpackGroup : List Byte → List Byte
  | [] => []
  | h :: data => unpackData h 0 data

/-- The first `k` groups of 8 packed bytes, unpacked (40_bitpack R106). -/
def unpackGroups : Nat → List Byte → List Byte
  | 0, _ => []
  | k + 1, p => unpackGroup (p.take 8) ++ unpackGroups k (p.drop 8)

/-- UnpackFn's bytes (40_bitpack R106): ceil(L/8) groups. -/
def unpackFn (p : List Byte) : List Byte := unpackGroups ((p.length + 7) / 8) p

/-- Bit 7 of the byte is 1: it is not 7-bit clean (00_scope R7). -/
def highBit (b : Byte) : Bool := b.getLsbD 7

/-- The least i with bit 7 of p[i] set, if any; UnpackFn's `nonclean` is that there is one (40_bitpack R106, R107). -/
def firstNonclean (p : List Byte) : Option Nat := p.findIdx? highBit

/-- NONCLEAN_INPUT in strict mode, with the address of the first byte that has bit 7 set (40_bitpack R107). -/
def refuseNonclean (s : State) (base : Nat) (first : Option Nat) : Cmd Unit :=
  match first with
  | none => .ok ()
  | some i => raiseIf s.unpackStrict .noncleanInput (base + i)

/-- PACK's body (40_bitpack R109). -/
def packBody (s : State) : Cmd State := do
  checkSrc s s.a0.toNat s.a1.toNat
  let raw ← loadBytes s s.a0.toNat s.a1.toNat
  let out := packFn raw
  checkDst s s.a2.toNat out.length s.a4.toNat
  raiseIf (overlaps s.a0.toNat s.a1.toNat s.a2.toNat out.length) .overlap s.a2.toNat
  .ok ((s.storeBytes s.a2.toNat out).setR0 out.length)

/-- PACK (40_bitpack R109). -/
def execPack (s : State) : Host.Outcome State Fault Refusal := commit s (packBody s)

/-- UNPACK's body (40_bitpack R110). -/
def unpackBody (s : State) : Cmd State := do
  checkSrc s s.a0.toNat s.a1.toNat
  let p ← loadBytes s s.a0.toNat s.a1.toNat
  let out := unpackFn p
  refuseNonclean s s.a0.toNat (firstNonclean p)
  checkDst s s.a2.toNat out.length s.a4.toNat
  raiseIf (overlaps s.a0.toNat s.a1.toNat s.a2.toNat out.length) .overlap s.a2.toNat
  .ok (((s.storeBytes s.a2.toNat out).setR0 out.length).warnIf (firstNonclean p).isSome .wNonclean)

/-- UNPACK (40_bitpack R110). -/
def execUnpack (s : State) : Host.Outcome State Fault Refusal := commit s (unpackBody s)

end Sys2Proof.Machine
end

