-- ==== Sys2Proof/Machine/Checksum.lean ====
section
/-! DEFINITION. The modular-7 checksum (41_checksum): ChecksumFn, VerifyFn, CHECKSUM and VERIFY. -/

namespace Sys2Proof.Machine

/-- sum(s), the integer sum of the bytes (00_scope R9). -/
def byteSum (bs : List Byte) : Nat := (bs.map BitVec.toNat).sum

/-- ChecksumFn (41_checksum R120), a number in 0..127. -/
def checksumFn (bs : List Byte) : Nat := (128 - byteSum bs % 128) % 128

/-- VerifyFn (41_checksum R122): bit 7 of the expected byte is not compared. -/
def verifyFn (bs : List Byte) (e : Byte) : Bool := (e &&& 0x7F#8).toNat == checksumFn bs

/-- CHECKSUM's body (41_checksum R125). -/
def checksumBody (s : State) : Cmd State := do
  checkSrc s s.a0.toNat s.a1.toNat
  let bs ← loadBytes s s.a0.toNat s.a1.toNat
  .ok (s.setR0 (checksumFn bs))

/-- CHECKSUM (41_checksum R125). -/
def execChecksum (s : State) : Host.Outcome State Fault Refusal := commit s (checksumBody s)

/-- VERIFY's body (41_checksum R126). -/
def verifyBody (s : State) : Cmd State := do
  raiseIf (!exp8Clean s.a3) .badArgument s.a3.toNat
  checkSrc s s.a0.toNat s.a1.toNat
  let bs ← loadBytes s s.a0.toNat s.a1.toNat
  .ok ((s.setR0 (verifyFn bs (exp8Byte s.a3)).toNat).setR1 (checksumFn bs))

/-- VERIFY (41_checksum R126). -/
def execVerify (s : State) : Host.Outcome State Fault Refusal := commit s (verifyBody s)

end Sys2Proof.Machine
end

