-- ==== Sys2Proof/Machine/Control.lean ====
section
/-! DEFINITION. The control commands (44_control): NOP and SOFT_RESET. -/

namespace Sys2Proof.Machine

/-- NOP (44_control R200): nothing beyond dispatch, which has cleared STATUS.ERR and ERR (30_encoding R95). -/
def execNop (s : State) : Host.Outcome State Fault Refusal := commit s (.ok s)

/-- The registers SOFT_RESET writes, at the values of 44_control R201. CMD, MEM, OVL and the parameters keep theirs
(70_reset R241, R243). -/
def State.softReset (s : State) : State :=
  { s with
    status := 0x00000000#32
    err := 0x00000000#32
    errInfo := 0x00000000#32
    ctrl := 0x00000004#32
    a0 := 0#32
    a1 := 0#32
    a2 := 0#32
    a3 := 0#32
    a4 := 0#32
    r0 := 0#32
    r1 := 0#32
    r2 := 0#32
    r3 := 0#32
    frameCur := 0#32
    frameEnd := 0#32
    patBase := 0#32
    patSize := 0#32
    fdt0 := Vector.replicate 32 ⟨0#32, 0#32⟩
    fdt1 := Vector.replicate 32 ⟨0#32, 0#32⟩
    mask := [] }

/-- SOFT_RESET (44_control R201). -/
def execSoftReset (s : State) : Host.Outcome State Fault Refusal := commit s (.ok s.softReset)

end Sys2Proof.Machine
end

