-- ==== Sys2Proof/Machine/Pattern.lean ====
section
/-! DEFINITION. The fixed-offset byte-field accessor with its write-mask overlay (43_pattern): FDT validation and the seven
pattern commands. -/

namespace Sys2Proof.Machine

/-! ### FDT validation (43_pattern R173) -/

/-- V1 to V5 of one entry, for a buffer of `size` bytes. -/
def entryLegal (size : Nat) (e : FdtEntry) : Bool :=
  (decide (e.elemLen ≥ 1) && decide (e.count ≥ 1))
    && (e.cls != .reserved && e.typ != .reserved)
    && ((e.typ != .u8 || e.elemLen == 1) && (e.typ != .u16be || e.elemLen == 2))
    && decide (e.start + e.size ≤ size)
    && (!e.writable || decide (e.start ≥ 16))

/-- The two entries cover a byte in common. -/
def entriesMeet (e f : FdtEntry) : Bool := overlaps e.start e.size f.start f.size

/-- V6 fails at `e`: a byte it covers is covered by a VALID entry of class PRESERVE. -/
def touchesPreserve (entries : List FdtEntry) (e : FdtEntry) : Bool :=
  entries.any fun f => f.valid && f.cls == .preserve && entriesMeet e f

/-- The sum of V7, over the VALID entries. -/
def regionSum (entries : List FdtEntry) : Nat := ((entries.filter FdtEntry.valid).map FdtEntry.size).sum

/-- ValidateFDT(b, S) on the entries of bank b: `none` is OK, `some v` the failing index (43_pattern R173). -/
def validateFdt (bank : FdtBank) (size : Nat) : Option Nat :=
  let entries := bank.toList
  match entries.findIdx? (fun e => e.valid && !entryLegal size e) with
  | some i => some i
  | none =>
    match entries.findIdx? (fun e => e.valid && e.writable && touchesPreserve entries e) with
    | some i => some i
    | none => if regionSum entries ≤ size then none else some 32

/-! ### PAT_OPEN (43_pattern R176) -/

/-- The bank a buffer's length selects (43_pattern R171): `false` is bank 0, `true` bank 1. -/
def sizeVariant (p : Params) (n : Nat) : Option Bool :=
  if n = p.sizeSmall then some false else if n = p.sizeLarge then some true else none

/-- `if v != OK: raise Fault(DESCRIPTOR_INVALID, v)` (43_pattern R176). -/
def requireValid : Option Nat → Cmd Unit
  | none => .ok ()
  | some v => raise .descriptorInvalid v

/-- PAT_OPEN's body for the variant the length has selected (43_pattern R176). -/
def patOpenAs (s : State) (b : Bool) : Cmd State := do
  checkSrc s s.a0.toNat s.a1.toNat
  let header ← loadBytes s s.a0.toNat 16
  raiseIf (header != magicBytes s.params) .invalidFileHeader s.a0.toNat
  requireValid (validateFdt (s.bank b) s.a1.toNat)
  .ok ((((({ s with patBase := s.a0, patSize := s.a1 }.setFlag .patVariant b).setFlag .patOpen true).clearStage).setR0
    b.toNat))

/-- PAT_OPEN's body (43_pattern R176). -/
def patOpenBody (s : State) : Cmd State :=
  match sizeVariant s.params s.a1.toNat with
  | none => raise .invalidFileSize s.a1.toNat
  | some b => patOpenAs s b

/-- PAT_OPEN (43_pattern R176). -/
def execPatOpen (s : State) : Host.Outcome State Fault Refusal := commit s (patOpenBody s)

/-! ### The field commands -/

/-- A U16BE element of the open buffer, most significant byte first (43_pattern R174). -/
def loadU16 (s : State) (a : Nat) : Cmd Nat := do
  let hi ← loadByte s a
  let lo ← loadByte s (a + 1)
  .ok (u16be hi lo)

/-- PAT_GET of a U8 element at address `p` (43_pattern R177). -/
def getU8 (s : State) (p off : Nat) : Cmd State := do
  let v ← loadByte s p
  .ok ((s.setR0 v.toNat).setR1 off)

/-- PAT_GET of a U16BE element at address `p` (43_pattern R177). -/
def getU16 (s : State) (p off : Nat) : Cmd State := do
  let v ← loadU16 s p
  .ok ((s.setR0 v).setR1 off)

/-- PAT_GET of a BYTES element of `n` bytes at address `p` (43_pattern R177). -/
def getBytes (s : State) (p n off : Nat) : Cmd State := do
  checkDst s s.a2.toNat n s.a4.toNat
  raiseIf (overlaps p n s.a2.toNat n) .overlap s.a2.toNat
  let v ← loadBytes s p n
  .ok (((s.storeBytes s.a2.toNat v).setR0 n).setR1 off)

/-- PAT_GET's body (43_pattern R177). Its last branch is BYTES; TYPE = 3 never reaches an open table (R173 V2; log 11). -/
def patGetBody (fid : BitVec 5) (s : State) : Cmd State := do
  requireOpen s
  let (e, off) ← elemSel s fid s.a3.toNat
  let p := s.patBase.toNat + off
  match e.typ with
  | .u8 => getU8 s p off
  | .u16be => getU16 s p off
  | .bytes => getBytes s p e.elemLen off
  | .reserved => getBytes s p e.elemLen off

/-- PAT_GET (43_pattern R177). -/
def execPatGet (fid : BitVec 5) (s : State) : Host.Outcome State Fault Refusal := commit s (patGetBody fid s)

/-- SectionEnabled(p) (43_pattern R180). -/
def sectionEnabled (p : Nat) : Bool := p != 0xFEFE

/-- PAT_SECTION_ENABLED's body (43_pattern R179). -/
def patSectionEnabledBody (fid : BitVec 5) (s : State) : Cmd State := do
  requireOpen s
  raiseIf ((s.entry fid).valid && (s.entry fid).typ != .u16be) .badField (badFieldInfo fid 2)
  let (_, off) ← elemSel s fid s.a3.toNat
  let p ← loadU16 s (s.patBase.toNat + off)
  .ok ((s.setR0 (sectionEnabled p).toNat).setR1 p)

/-- PAT_SECTION_ENABLED (43_pattern R179). -/
def execPatSectionEnabled (fid : BitVec 5) (s : State) : Host.Outcome State Fault Refusal :=
  commit s (patSectionEnabledBody fid s)

/-- PAT_WRITE_SAFE's body (43_pattern R181, R182). -/
def patWriteSafeBody (fid : BitVec 5) (s : State) : Cmd State := do
  requireOpen s
  let (e, off) ← elemSel s fid s.a3.toNat
  raiseIf (e.cls == .preserve) .unsafeFieldWrite 0
  raiseIf (e.cls == .provisional && !s.provEn) .unsafeFieldWrite 1
  checkSrc s s.a0.toNat e.elemLen
  let v ← loadBytes s s.a0.toNat e.elemLen
  .ok (((s.stage off v).setR0 off).setR1 e.elemLen)

/-- PAT_WRITE_SAFE (43_pattern R181). -/
def execPatWriteSafe (fid : BitVec 5) (s : State) : Host.Outcome State Fault Refusal := commit s (patWriteSafeBody fid s)

/-! ### The overlay -/

/-- Byte i of PAT_OVERLAY's output: OVL where MASK is 1, the open buffer elsewhere (43_pattern R183). -/
def overlayByte (s : State) (i : Nat) : Cmd Byte :=
  if s.masked i then .ok (s.ovlByte i) else loadByte s (s.patBase.toNat + i)

/-- Bytes i .. i+n−1 of PAT_OVERLAY's output (43_pattern R183). -/
def overlayBytes (s : State) : Nat → Nat → Cmd (List Byte)
  | 0, _ => .ok []
  | n + 1, i => do
    let v ← overlayByte s i
    let vs ← overlayBytes s n (i + 1)
    .ok (v :: vs)

/-- The number of i < n with MASK[i] = 1 (43_pattern R183). -/
def maskCount (s : State) (n : Nat) : Nat := (List.range n).countP s.masked

/-- PAT_OVERLAY's body (43_pattern R183): exactly in place is allowed, any other overlap refused. -/
def patOverlayBody (s : State) : Cmd State := do
  requireOpen s
  let n := s.patSize.toNat
  checkDst s s.a2.toNat n s.a4.toNat
  raiseIf (s.a2 != s.patBase && overlaps s.patBase.toNat n s.a2.toNat n) .overlap s.a2.toNat
  let out ← overlayBytes s n 0
  .ok (((s.storeBytes s.a2.toNat out).setR0 n).setR1 (maskCount s n))

/-- PAT_OVERLAY (43_pattern R183). -/
def execPatOverlay (s : State) : Host.Outcome State Fault Refusal := commit s (patOverlayBody s)

/-- PAT_CLEAR_STAGE (43_pattern R185). -/
def execPatClearStage (s : State) : Host.Outcome State Fault Refusal := commit s (.ok s.clearStage)

/-- PAT_CLOSE (43_pattern R186): PAT_BASE, PAT_SIZE and PAT_VARIANT keep their values. -/
def execPatClose (s : State) : Host.Outcome State Fault Refusal := commit s (.ok s.closePattern)

end Sys2Proof.Machine
end

