-- ==== Sys2Proof/Machine/Sysex.lean ====
section
/-! DEFINITION. The SysEx framer, classifier and bulk-dump codec (42_sysex): FRAME_RESET, FRAME_NEXT, CLASSIFY, DECODE_BULK,
ENCODE_BULK, ENCODE_INIT and ENCODE_CLOSE. -/

namespace Sys2Proof.Machine

/-- START (42_sysex R130). -/
def startByte : Byte := 0xF0#8

/-- END (42_sysex R130). -/
def endByte : Byte := 0xF7#8

/-! ### The framer -/

/-- FRAME_RESET's body (42_sysex R132). -/
def frameResetBody (s : State) : Cmd State := do
  checkSrc s s.a0.toNat s.a1.toNat
  .ok ({ s with
    frameCur := s.a0
    frameEnd := BitVec.ofNat 32 (s.a0.toNat + s.a1.toNat) }.setFlag .frameActive true)

/-- FRAME_RESET (42_sysex R132). -/
def execFrameReset (s : State) : Host.Outcome State Fault Refusal := commit s (frameResetBody s)

/-- What one scan of the framer ends with (42_sysex R133). -/
inductive Scan where
  /-- A span of `len` bytes at `start`, after `disc` discarded runs. -/
  | found (start len disc : Nat)
  /-- The stream has ended, after `disc` discarded runs. -/
  | ended (disc : Nat)
  deriving DecidableEq, Repr

/-- The loop of 42_sysex R133 over the next `n` bytes from address `i`; `run` is the start of the open run, if one is open. -/
def frameScan (s : State) : Nat → Nat → Option Nat → Nat → Cmd Scan
  | 0, _, run, disc => .ok (.ended (if run.isSome then disc + 1 else disc))
  | n + 1, i, run, disc => do
    let b ← loadByte s i
    if b = startByte then
      frameScan s n (i + 1) (some i) (if run.isSome then disc + 1 else disc)
    else
      match run with
      | some start => if b = endByte then .ok (.found start (i - start + 1) disc) else frameScan s n (i + 1) run disc
      | none => frameScan s n (i + 1) run disc

/-- What FRAME_NEXT writes for a scan's end (42_sysex R133). -/
def State.takeScan (s : State) : Scan → State
  | .found start len disc =>
    (((({ s with frameCur := BitVec.ofNat 32 (start + len) }.setR0 1).setR1 start).setR2 len).setR3 disc).warnIf
      (decide (disc > 0)) .wDiscard
  | .ended disc =>
    (((({ s with frameCur := s.frameEnd }.setR0 0).setR1 0).setR2 0).setR3 disc).warnIf (decide (disc > 0)) .wDiscard

/-- FRAME_NEXT's body (42_sysex R133). -/
def frameNextBody (s : State) : Cmd State := do
  raiseIf (!s.flag .frameActive) .notReady 0
  let r ← frameScan s (s.frameEnd.toNat - s.frameCur.toNat) s.frameCur.toNat none 0
  .ok (s.takeScan r)

/-- FRAME_NEXT (42_sysex R133). -/
def execFrameNext (s : State) : Host.Outcome State Fault Refusal := commit s (frameNextBody s)

/-! ### Classification -/

/-- The kinds of 42_sysex R135. -/
inductive Kind where
  | unknown | bulkDump | paramChange | paramInit | paramClose | dumpRequest
  deriving DecidableEq, Repr

/-- The kind codes of 42_sysex R135. -/
def Kind.code : Kind → Nat
  | .unknown => 0
  | .bulkDump => 1
  | .paramChange => 2
  | .paramInit => 3
  | .paramClose => 4
  | .dumpRequest => 5

/-- The reasons of 42_sysex R135. -/
inductive Reason where
  | ok | malformed | unsupported | unknownType
  deriving DecidableEq, Repr

/-- The reason codes of 42_sysex R135. -/
def Reason.code : Reason → Nat
  | .ok => 0
  | .malformed => 1
  | .unsupported => 2
  | .unknownType => 3

/-- ClassifyFn's result (42_sysex R134). -/
structure Classification where
  kind : Kind
  reason : Reason
  dev : Nat
  typ : Nat
  deriving DecidableEq, Repr

/-- m[i] of a message; every use has i below its length. -/
def byteAt (m : List Byte) (i : Nat) : Byte := m.getD i 0x00#8

/-- ClassifyFn (42_sysex R134, with R136 and R137). -/
def classifyFn (p : Params) (m : List Byte) : Classification :=
  let n := m.length
  if n < 5 then ⟨.unknown, .malformed, 0, 0⟩
  else if byteAt m 0 ≠ startByte ∨ byteAt m (n - 1) ≠ endByte then ⟨.unknown, .malformed, 0, 0⟩
  else
    let dev := (byteAt m 2 &&& 0x0F#8).toNat
    let t := (byteAt m 2 >>> 4).toNat
    if byteAt m 1 ≠ mfrByte p ∨ byteAt m 3 ≠ modelByte p then ⟨.unknown, .unsupported, dev, t⟩
    else if t = 0 then
      if n < 11 then ⟨.unknown, .malformed, dev, t⟩ else ⟨.bulkDump, .ok, dev, t⟩
    else if t = 1 then
      if n < 9 then ⟨.unknown, .malformed, dev, t⟩
      else if n = 9 ∧ byteAt m 4 = 0x00#8 ∧ byteAt m 5 = 0x00#8 ∧ byteAt m 6 = 0x00#8 ∧ byteAt m 7 = 0x01#8 then
        ⟨.paramInit, .ok, dev, t⟩
      else if n = 9 ∧ byteAt m 4 = 0x00#8 ∧ byteAt m 5 = 0x00#8 ∧ byteAt m 6 = 0x00#8 ∧ byteAt m 7 = 0x00#8 then
        ⟨.paramClose, .ok, dev, t⟩
      else ⟨.paramChange, .ok, dev, t⟩
    else if t = 2 then
      if n < 8 then ⟨.unknown, .malformed, dev, t⟩ else ⟨.dumpRequest, .ok, dev, t⟩
    else ⟨.unknown, .unknownType, dev, t⟩

/-- CLASSIFY's body (42_sysex R138). -/
def classifyBody (s : State) : Cmd State := do
  checkSrc s s.a0.toNat s.a1.toNat
  let m ← loadBytes s s.a0.toNat s.a1.toNat
  let c := classifyFn s.params m
  .ok ((((s.setR0 c.kind.code).setR1 c.reason.code).setR2 c.dev).setR3 c.typ)

/-- CLASSIFY (42_sysex R138). -/
def execClassify (s : State) : Host.Outcome State Fault Refusal := commit s (classifyBody s)

/-! ### Bulk dumps -/

/-- m[i..j], inclusive (00_scope R9). -/
def slice (m : List Byte) (i j : Nat) : List Byte := (m.take (j + 1)).drop i

/-- The low 7 bits of a byte. -/
def low7 (b : Byte) : Nat := (b &&& 0x7F#8).toNat

/-- The byte count BH/BL of a bulk dump (42_sysex R140). -/
def byteCount (m : List Byte) : Nat := (low7 (byteAt m 4) <<< 7) ||| low7 (byteAt m 5)

/-- The address triple of a bulk dump, in layout ADDR3 (42_sysex R142, 30_encoding R88). -/
def addressTriple (m : List Byte) : Nat :=
  (low7 (byteAt m 6) <<< 16) ||| (low7 (byteAt m 7) <<< 8) ||| low7 (byteAt m 8)

/-- The span DECODE_BULK checks, for a message of length n (42_sysex R141); CS_SPAN = 3 has faulted before. -/
def decodeSpan (csSpan : BitVec 2) (m : List Byte) : List Byte :=
  if csSpan = 0#2 then slice m 4 (m.length - 3)
  else if csSpan = 1#2 then slice m 6 (m.length - 3)
  else slice m 6 8

/-- R3 of DECODE_BULK (42_sysex R142): CS as received [7:0], computed [14:8], CS_OK [16], BC_MATCH [17], device [27:24]. -/
def decodeReport (csRx : Byte) (csCalc : Nat) (csOk bcMatch : Bool) (dev : Nat) : Nat :=
  csRx.toNat ||| (csCalc <<< 8) ||| (csOk.toNat <<< 16) ||| (bcMatch.toNat <<< 17) ||| (dev <<< 24)

/-- The first i in 4 .. n−2 with bit 7 of m[i] set (42_sysex R142). -/
def firstNoncleanField (m : List Byte) : Option Nat := (firstNonclean (slice m 4 (m.length - 2))).map (· + 4)

/-- DECODE_BULK's body (42_sysex R142). -/
def decodeBulkBody (s : State) : Cmd State := do
  raiseIf (s.csSpan == 3#2) .reservedControl 3
  checkSrc s s.a0.toNat s.a1.toNat
  let m ← loadBytes s s.a0.toNat s.a1.toNat
  let c := classifyFn s.params m
  raiseIf (c.reason == .unsupported) .unsupportedMfrModel s.a0.toNat
  raiseIf (c.kind != .bulkDump) .malformedMessage (c.kind.code ||| (c.reason.code <<< 8))
  let k := m.length - 11
  let bc := byteCount m
  let payload := slice m 9 (8 + k)
  let csRx := byteAt m (m.length - 2)
  let span := decodeSpan s.csSpan m
  let csOk := verifyFn span csRx
  refuseNonclean s s.a0.toNat (firstNoncleanField m)
  let out := unpackFn payload
  checkDst s s.a2.toNat out.length s.a4.toNat
  raiseIf (overlaps s.a0.toNat m.length s.a2.toNat out.length) .overlap s.a2.toNat
  .ok ((((((((s.storeBytes s.a2.toNat out).setR0 out.length).setR1 bc).setR2 (addressTriple m)).setR3
    (decodeReport csRx (checksumFn span) csOk (bc == k) c.dev)).warnIf (!csOk) .wCsBad).warnIf
    (bc != k) .wBcMismatch).warnIf (firstNoncleanField m).isSome .wNonclean)

/-- DECODE_BULK (42_sysex R142). -/
def execDecodeBulk (s : State) : Host.Outcome State Fault Refusal := commit s (decodeBulkBody s)

/-- BH, BL, AH, AM, AL and the packed payload (42_sysex R139, R143). -/
def bulkBody (a3 : Word) (pk : List Byte) : List Byte :=
  [BitVec.ofNat 8 ((pk.length >>> 7) &&& 0x7F), BitVec.ofNat 8 (pk.length &&& 0x7F),
    (addr3High a3).setWidth 8, (addr3Mid a3).setWidth 8, (addr3Low a3).setWidth 8] ++ pk

/-- The bulk-dump message ENCODE_BULK builds (42_sysex R143). -/
def bulkMessage (p : Params) (dev : BitVec 4) (a3 : Word) (raw : List Byte) : List Byte :=
  [startByte, mfrByte p, 0x00#8 ||| dev.setWidth 8, modelByte p] ++ bulkBody a3 (packFn raw)
    ++ [BitVec.ofNat 8 (checksumFn (bulkBody a3 (packFn raw))), endByte]

/-- ENCODE_BULK's body (42_sysex R143). -/
def encodeBulkBody (dev : BitVec 4) (s : State) : Cmd State := do
  raiseIf (!addr3Clean s.a3) .badArgument s.a3.toNat
  raiseIf (decide (s.a1.toNat > Config.maxRawPayload)) .payloadTooLong s.a1.toNat
  checkSrc s s.a0.toNat s.a1.toNat
  let raw ← loadBytes s s.a0.toNat s.a1.toNat
  let pk := packFn raw
  let msg := bulkMessage s.params dev s.a3 raw
  checkDst s s.a2.toNat msg.length s.a4.toNat
  raiseIf (overlaps s.a0.toNat s.a1.toNat s.a2.toNat msg.length) .overlap s.a2.toNat
  .ok ((((s.storeBytes s.a2.toNat msg).setR0 msg.length).setR1 pk.length).setR2 (checksumFn (bulkBody s.a3 pk)))

/-- ENCODE_BULK (42_sysex R143). -/
def execEncodeBulk (dev : BitVec 4) (s : State) : Host.Outcome State Fault Refusal := commit s (encodeBulkBody dev s)

/-- The 9-byte control message with byte [7] = `mark`: 0x01 Init, 0x00 Close (42_sysex R137, R144, R145). -/
def controlMessage (p : Params) (dev : BitVec 4) (mark : Byte) : List Byte :=
  [startByte, mfrByte p, 0x10#8 ||| dev.setWidth 8, modelByte p, 0x00#8, 0x00#8, 0x00#8, mark, endByte]

/-- The shared body of ENCODE_INIT and ENCODE_CLOSE (42_sysex R144, R145). -/
def encodeControlBody (dev : BitVec 4) (mark : Byte) (s : State) : Cmd State := do
  checkDst s s.a2.toNat 9 s.a4.toNat
  .ok ((s.storeBytes s.a2.toNat (controlMessage s.params dev mark)).setR0 9)

/-- ENCODE_INIT (42_sysex R144). -/
def execEncodeInit (dev : BitVec 4) (s : State) : Host.Outcome State Fault Refusal :=
  commit s (encodeControlBody dev 0x01#8 s)

/-- ENCODE_CLOSE (42_sysex R145). -/
def execEncodeClose (dev : BitVec 4) (s : State) : Host.Outcome State Fault Refusal :=
  commit s (encodeControlBody dev 0x00#8 s)

end Sys2Proof.Machine
end

