-- ==== Sys2Proof/Machine/Dispatch.lean ====
section
/-! DEFINITION. The meaning of each command, one arm per constructor of Instr (30_encoding R86, R95). exec is what the unit
does after dispatch has stored CMD and cleared STATUS.ERR and ERR (State.beginCommand, log 12). -/

namespace Sys2Proof.Machine

def exec (i : Instr) (s : State) : Host.Outcome State Fault Refusal :=
  match i with
  | .nop => Sys2Proof.Machine.execNop s
  | .pack => Sys2Proof.Machine.execPack s
  | .unpack => Sys2Proof.Machine.execUnpack s
  | .checksum => Sys2Proof.Machine.execChecksum s
  | .verify => Sys2Proof.Machine.execVerify s
  | .frameReset => Sys2Proof.Machine.execFrameReset s
  | .frameNext => Sys2Proof.Machine.execFrameNext s
  | .classify => Sys2Proof.Machine.execClassify s
  | .decodeBulk => Sys2Proof.Machine.execDecodeBulk s
  | .encodeBulk dev => Sys2Proof.Machine.execEncodeBulk dev s
  | .encodeInit dev => Sys2Proof.Machine.execEncodeInit dev s
  | .encodeClose dev => Sys2Proof.Machine.execEncodeClose dev s
  | .patOpen => Sys2Proof.Machine.execPatOpen s
  | .patGet fid => Sys2Proof.Machine.execPatGet fid s
  | .patSectionEnabled fid => Sys2Proof.Machine.execPatSectionEnabled fid s
  | .patWriteSafe fid => Sys2Proof.Machine.execPatWriteSafe fid s
  | .patOverlay => Sys2Proof.Machine.execPatOverlay s
  | .patClearStage => Sys2Proof.Machine.execPatClearStage s
  | .patClose => Sys2Proof.Machine.execPatClose s
  | .softReset => Sys2Proof.Machine.execSoftReset s

end Sys2Proof.Machine
end

