-- ==== Sys2Proof/Machine/HostBus.lean ====
section
/-! DEFINITION. The host's transactions (20_memory R74 to R76): MEM and CSR reads and writes, and the CMD write that runs a
command (30_encoding R95). -/

namespace Sys2Proof.Machine

/-- The body of a CMD write of `w`, after dispatch has begun (30_encoding R95): the command `w` names, or ILLEGAL_COMMAND with
the word (R87). -/
def runWord (w : Word) (s : State) : Host.Outcome State Fault Refusal :=
  match decode w with
  | .ok i => exec i s
  | .error _ => commit s (raise .illegalCommand w.toNat)

/-- A host write of `w` to CMD, the whole command in one step (30_encoding R95, 20_memory R65). -/
def runCommand (w : Word) (s : State) : Host.Outcome State Fault Refusal :=
  onNext State.endCommand (runWord w (s.beginCommand w))

/-- An access the bus rejects sets W_BUSERR (10_state R45, 20_memory R74, 70_reset R247). -/
def State.busError (s : State) : State := s.setFlag .wBusErr true

/-- The state with what a host read has returned. -/
def State.returned (s : State) (v : Word) : State := { s with rdata := v }

/-- HOST_MEM_READ(a) (20_memory R74); an unwritten byte is UNINIT_READ (60_exceptions R225). -/
def hostMemRead (s : State) (a : Nat) : Host.Outcome State Fault Refusal :=
  if a < s.params.memBytes then
    match cellRead s.mem a with
    | some v => .next (s.returned (v.setWidth 32))
    | none => .fault (.uninitRead a)
  else .next (s.busError.returned 0x00000000#32)

/-- HOST_MEM_WRITE(a, v) (20_memory R74). -/
def hostMemWrite (s : State) (a : Nat) (v : Byte) : Host.Outcome State Fault Refusal :=
  if a < s.params.memBytes then .next { s with mem := cellWrite s.mem a v } else .next s.busError

/-- HOST_CSR_READ(off) (20_memory R75, 10_state R45). -/
def hostCsrRead (s : State) (off : Nat) : Host.Outcome State Fault Refusal :=
  match csrAt off with
  | some c => .next (s.returned (readCsr s c))
  | none => .next (s.busError.returned 0x00000000#32)

/-- HOST_CSR_WRITE(off, v) (20_memory R75, R76, 10_state R45). -/
def hostCsrWrite (s : State) (off : Nat) (v : Word) : Host.Outcome State Fault Refusal :=
  match csrAt off with
  | some .cmd => runCommand v s
  | some c => .next (writeCsr s c v)
  | none => .next s.busError

/-- One transaction while the unit is idle (20_memory R76). -/
def performIdle (s : State) : HostTxn → Host.Outcome State Fault Refusal
  | .memRead a => hostMemRead s a
  | .memWrite a v => hostMemWrite s a v
  | .csrRead off => hostCsrRead s off
  | .csrWrite off v => hostCsrWrite s off v

/-- One transaction while STATUS.BUSY is 1 (70_reset R247): a read of STATUS returns it; any other read returns 0, any write is
ignored, and either sets W_BUSERR. In the untimed model no run reaches a state with BUSY set (R246, log 6). -/
def performBusy (s : State) : HostTxn → Host.Outcome State Fault Refusal
  | .csrRead off =>
    if csrAt off = some .status then .next (s.returned s.status) else .next (s.busError.returned 0x00000000#32)
  | .memRead _ => .next (s.busError.returned 0x00000000#32)
  | .memWrite _ _ => .next s.busError
  | .csrWrite _ _ => .next s.busError

/-- One transaction of the host. -/
def perform (s : State) (t : HostTxn) : Host.Outcome State Fault Refusal :=
  if s.flag .busy then performBusy s t else performIdle s t

/-- The next transaction of the host program (10_state R46, 20_memory R76). -/
def State.nextTxn (s : State) : Option HostTxn := s.script[s.pc]?

/-- The position in the host program after the next transaction (10_state R46). -/
def State.advance (s : State) : State := { s with pc := s.pc + 1 }

/-- The state whose next transaction is the write of `w` to CMD and whose unit is idle. -/
def State.withCommand (s : State) (w : Word) : State :=
  { s.setFlag .busy false with script := [.csrWrite 0x000 w], pc := 0 }

end Sys2Proof.Machine
end

