-- ==== Sys2Proof/Machine/Step.lean ====
section
/-! DEFINITION. One step: the next transaction of the host program (20_memory R76). -/

namespace Sys2Proof.Machine

/-- One transaction per step (20_memory R76). When the host program has ended the block is idle and holds all of its state
(60_exceptions R224, log 4). -/
def step (s : State) : Host.Outcome State Fault Refusal :=
  match s.nextTxn with
  | some t => perform s.advance t
  | none => .next s

/-- The state whose very next step runs the command word `w`: a host program of that one CMD write, and an idle unit
(log 4). -/
def State.withFetchWord (s : State) (nbits w : Nat) : State := s.withCommand (BitVec.ofNat 32 (w % 2 ^ nbits))

end Sys2Proof.Machine
end

