-- ==== Sys2Proof/Safety.lean ====
section
/-! DEFINITION. The terms claims are stated in: byte ranges of MEM and what a store leaves, the invariants of the block, and what
counts as a safe outcome of a step. -/

namespace Sys2Proof.Machine

/-! ### Ranges and stores -/

/-- The bytes `bs` stand in MEM from address `a` on. -/
abbrev HasBytes (s : State) (a : Nat) (bs : List Byte) : Prop :=
  ∀ i, i < bs.length → s.peek (a + i) = bs[i]?

/-- A range of `n` bytes from `a` is empty or lies inside MEM (00_scope R13). -/
abbrev Fits (s : State) (a n : Nat) : Prop := n = 0 ∨ a + n ≤ s.params.memBytes

/-- Two ranges share no byte (00_scope R13). -/
abbrev Apart (a n b m : Nat) : Prop := n = 0 ∨ m = 0 ∨ b + m ≤ a ∨ a + n ≤ b

/-- `t`'s MEM is `s`'s with `bs` stored at `a`: each stored byte reads as written, every other address as before. -/
def StoredAt (s t : State) (a : Nat) (bs : List Byte) : Prop :=
  ∀ x, t.peek x = if a ≤ x ∧ x < a + bs.length then bs[x - a]? else s.peek x

/-- Every address reads as before. -/
def SameMemory (s t : State) : Prop := ∀ x, t.peek x = s.peek x

/-! ### Invariants -/

/-- MEM is in its canonical form and lists addresses below P_MEM_BYTES alone (20_memory R60). -/
abbrev MemoryCanonical (s : State) : Prop :=
  Memory.wf s.mem = true ∧ ∀ c ∈ s.mem, c.1 < s.params.memBytes

/-- The reserved bits of STATUS, ERR and CTRL are 0 (10_state R22, R24, R26), and so is STATUS.BUSY (70_reset R246). -/
abbrev ControlBitsClear (s : State) : Prop :=
  s.status &&& 0xFFF8E0F9#32 = 0#32 ∧ s.err &&& 0xFFFF0000#32 = 0#32 ∧ s.ctrl &&& 0xFFFFFFF0#32 = 0#32

/-- The reserved bits of an FDT entry are 0 (10_state R37, R38). -/
abbrev EntryBitsClear (e : FdtEntry) : Prop :=
  e.word0 &&& 0xFF000000#32 = 0#32 ∧ e.word1 &&& 0x7FF00000#32 = 0#32

/-- The reserved bits of every FDT entry are 0 (10_state R37, R38). -/
abbrev FdtBitsClear (s : State) : Prop :=
  ∀ b : Bool, ∀ i : Fin 32, EntryBitsClear (s.bank b)[i]

/-- Every reserved bit of a register reads as 0, and no command is in progress between steps. -/
abbrev ReservedBitsClear (s : State) : Prop := ControlBitsClear s ∧ FdtBitsClear s

/-- FRAME_CUR ≤ FRAME_END while a stream is set up (10_state R32), and what is left of the stream lies inside MEM. -/
abbrev FramerOrdered (s : State) : Prop :=
  s.flag .frameActive = true → s.frameCur.toNat ≤ s.frameEnd.toNat ∧
    (s.frameCur.toNat < s.frameEnd.toNat → s.frameEnd.toNat ≤ s.params.memBytes)

/-- An open pattern has the length of its variant, lies inside MEM, and its FDT bank has passed validation (43_pattern R171,
R173, 10_state R40, 70_reset R251). -/
abbrev OpenPatternValid (s : State) : Prop :=
  s.flag .patOpen = true →
    sizeVariant s.params s.patSize.toNat = some s.variant ∧
    s.patBase.toNat + s.patSize.toNat ≤ s.params.memBytes ∧
    validateFdt (s.bank s.variant) s.patSize.toNat = none

/-- Offset `i` is covered by a VALID entry of class SAFE or PROVISIONAL in the bank in use (10_state R38). -/
abbrev CoveredWritable (s : State) (i : Nat) : Prop :=
  ∃ k : Fin 32, ((s.bank s.variant)[k]).valid = true ∧ ((s.bank s.variant)[k]).writable = true ∧
    ((s.bank s.variant)[k]).start ≤ i ∧ i < ((s.bank s.variant)[k]).start + ((s.bank s.variant)[k]).size

/-- MASK is empty while no pattern is open, it is kept rising, and it covers writable bytes alone (10_state R43, 43_pattern
R181, R182). -/
abbrev StageDisciplined (s : State) : Prop :=
  (s.flag .patOpen = false → s.mask = []) ∧ s.mask.Pairwise (· < ·) ∧ ∀ i ∈ s.mask, CoveredWritable s i

/-- All of the above, with parameters inside the bounds of 00_scope R6: what every run from reset keeps. -/
abbrev Invariant (s : State) : Prop :=
  s.params.wellFormed = true ∧ MemoryCanonical s ∧ ReservedBitsClear s ∧ FramerOrdered s ∧ OpenPatternValid s ∧
    StageDisciplined s

/-! ### Outcomes -/

/-- A step is safe when the block goes on: an architectural fault is a next state, a model-level stop is not. -/
def Continues (o : Host.Outcome State Fault Refusal) : Prop := ∃ t, o = .next t

/-- A command has ended in a fault (60_exceptions R210). -/
def Faulted (t : State) : Prop := t.flag .err = true

/-- The faults each command can raise after ILLEGAL_COMMAND (60_exceptions R228). -/
def faultsOf : Instr → List FaultCode
  | .nop | .patClearStage | .patClose | .softReset => []
  | .pack => [.bounds, .capacity, .overlap]
  | .unpack => [.bounds, .noncleanInput, .capacity, .overlap]
  | .checksum | .frameReset | .classify => [.bounds]
  | .verify => [.badArgument, .bounds]
  | .frameNext => [.notReady]
  | .decodeBulk =>
    [.reservedControl, .bounds, .unsupportedMfrModel, .malformedMessage, .noncleanInput, .capacity, .overlap]
  | .encodeBulk _ => [.badArgument, .payloadTooLong, .bounds, .capacity, .overlap]
  | .encodeInit _ | .encodeClose _ => [.capacity, .bounds]
  | .patOpen => [.invalidFileSize, .bounds, .invalidFileHeader, .descriptorInvalid]
  | .patGet _ => [.notReady, .badField, .capacity, .bounds, .overlap]
  | .patSectionEnabled _ => [.notReady, .badField]
  | .patWriteSafe _ => [.notReady, .badField, .unsafeFieldWrite, .bounds]
  | .patOverlay => [.notReady, .capacity, .bounds, .overlap]

/-- The commands that write MEM (20_memory R60, R68, and each command's rule). -/
def writesMemory : Instr → Bool
  | .pack | .unpack | .decodeBulk | .encodeBulk _ | .encodeInit _ | .encodeClose _ | .patGet _ | .patOverlay => true
  | .nop | .checksum | .verify | .frameReset | .frameNext | .classify | .patOpen | .patSectionEnabled _
  | .patWriteSafe _ | .patClearStage | .patClose | .softReset => false

/-- The command word that the next transaction writes to CMD, if it writes one (30_encoding R95). -/
def State.nextCommand (s : State) : Option Word :=
  match s.nextTxn with
  | some (.csrWrite 0x000 w) => some w
  | _ => none

/-- Bit `i` of a word is a write-one-to-clear bit of STATUS (10_state R23). -/
def isW1C (i : Nat) : Bool := [2, 8, 9, 10, 11, 12].contains i

/-! ### Streams of messages (42_sysex R146) -/

/-- A message: START, a body with no START and no END in it, END. -/
def wrap (body : List Byte) : List Byte := startByte :: (body ++ [endByte])

/-- Bytes with no START or END inside. -/
abbrev Plain (body : List Byte) : Prop := startByte ∉ body ∧ endByte ∉ body

/-- Junk that holds no complete run: no END comes after a START in it. -/
abbrev Junk (j : List Byte) : Prop := ∃ u v, j = u ++ v ∧ startByte ∉ u ∧ endByte ∉ v

/-- The stream of junk and messages, in order, and junk at the end. -/
def streamOf : List (List Byte × List Byte) → List Byte → List Byte
  | [], last => last
  | (j, body) :: rest, last => j ++ wrap body ++ streamOf rest last

/-- Where the messages of such a stream stand, as address and length, for a stream at address `a`. -/
def spansOf (a : Nat) : List (List Byte × List Byte) → List (Nat × Nat)
  | [] => []
  | (j, body) :: rest => (a + j.length, body.length + 2) :: spansOf (a + j.length + (body.length + 2)) rest

/-- The spans the framer yields: FRAME_NEXT again and again, at most `n` times, until one finds nothing (42_sysex R133). -/
def framerSpans : Nat → State → List (Nat × Nat)
  | 0, _ => []
  | n + 1, s =>
    match exec .frameNext s with
    | .next t => if t.r0 = 1#32 then (t.r1.toNat, t.r2.toNat) :: framerSpans n t else []
    | .fault _ => []
    | .refused _ => []

end Sys2Proof.Machine
end

