-- ==== Sys2Proof/Certificates/Slice0/Obligations.lean ====
section
/-! DEFINITION. What is claimed of the model, each statement with the rule of spec/ it rests on. -/

open Sys2Proof Sys2Proof.Machine

/-! ## Encoding -/

/-- Decoding the word of a well-formed command gives the command back, with every DEV and every FID (30_encoding R81 to R86). -/
def Obligations.DecodeOfEncode : Prop :=
  ∀ i : Instr, i.wellFormed = true → decode (encode i) = .ok i

/-- A word that decodes is the one word of its command: no bit of it is ignored (30_encoding R84). -/
def Obligations.EncodeOfDecode : Prop :=
  ∀ (w : Word) (i : Instr), decode w = .ok i → encode i = w

/-- The decoder accepts exactly the words that match a row of the opcode table (30_encoding R84, R86, R87). -/
def Obligations.DecoderAcceptsExactlyTheTable : Prop :=
  ∀ w : Word, (∃ i, decode w = .ok i) ↔ commandLegal w = true

/-- Words written out from the encoding tables decode to the commands they stand for (30_encoding R85, R86). -/
def Obligations.SampleWordsDecode : Prop :=
  decode 0x00000000#32 = .ok .nop ∧ decode 0x00000001#32 = .ok .pack ∧ decode 0x00000004#32 = .ok .verify ∧
    decode 0x00000011#32 = .ok .frameNext ∧ decode 0x00000314#32 = .ok (.encodeBulk 3#4) ∧
    decode 0x000C0021#32 = .ok (.patGet 12#5) ∧ decode 0x001F0023#32 = .ok (.patWriteSafe 31#5) ∧
    decode 0x0000003F#32 = .ok .softReset

/-! ## Steps -/

/-- When the next transaction writes to CMD a word that decodes to a well-formed command, the step is that command's meaning
between the start and the end of a command (30_encoding R95): CMD is written, STATUS.ERR and ERR are cleared, BUSY is 1 inside,
and the position in the host program moves by one. withFetchWord makes any word of 32 bits that next transaction (logs 4 and 12). -/
def Obligations.StepRunsDecodedCommand : Prop :=
  (∀ (s : State) (w : Word) (i : Instr), s.nextCommand = some w → s.flag .busy = false → decode w = .ok i →
      i.wellFormed = true → step s = onNext State.endCommand (exec i (s.advance.beginCommand w))) ∧
    (∀ (s : State) (w : Word), s.advance.beginCommand w =
      { s with cmd := w, err := 0#32, status := (s.status &&& ~~~0x00000002#32) ||| 0x00000001#32, pc := s.pc + 1 }) ∧
    (∀ s : State, s.endCommand = { s with status := s.status &&& ~~~0x00000001#32 }) ∧
    ∀ (s : State) (w : Nat), w < 2 ^ 32 → (s.withFetchWord 32 w).nextCommand = some (BitVec.ofNat 32 w) ∧
      (s.withFetchWord 32 w).flag .busy = false

/-- A word that matches no row of the opcode table faults ILLEGAL_COMMAND with the word in ERR_INFO, and changes nothing but CMD
and the fault registers (30_encoding R87). -/
def Obligations.IllegalWordFaults : Prop :=
  ∀ (s : State) (w : Word), s.nextCommand = some w → s.flag .busy = false → commandLegal w = false →
    step s = .next { s with
      cmd := w, status := s.status ||| 0x00000006#32, err := 0#16 ++ w.extractLsb' 0 8 ++ 0x10#8, errInfo := w,
      pc := s.pc + 1 }

/-! ## The host bus -/

/-- HOST_MEM_READ and HOST_MEM_WRITE (20_memory R74). The model's choices: an unwritten byte stops the model, the first of the
two treatments 60_exceptions R225 offers (log 2), and what a read returns is kept in rdata (log 5). -/
def Obligations.HostMemoryAccess : Prop :=
  ∀ s : State, s.flag .busy = false →
    (∀ a, s.nextTxn = some (.memRead a) →
      (∀ v, s.peek a = some v → step s = .next { s with rdata := v.setWidth 32, pc := s.pc + 1 }) ∧
      (a < s.params.memBytes → s.peek a = none → step s = .fault (.uninitRead a)) ∧
      (s.params.memBytes ≤ a →
        step s = .next { s with rdata := 0#32, status := s.status ||| 0x00001000#32, pc := s.pc + 1 })) ∧
    ∀ a v, s.nextTxn = some (.memWrite a v) →
      (a < s.params.memBytes →
        ∃ t, step s = .next t ∧ t = { s with mem := t.mem, pc := s.pc + 1 } ∧ StoredAt s t a [v]) ∧
      (s.params.memBytes ≤ a → step s = .next { s with status := s.status ||| 0x00001000#32, pc := s.pc + 1 })

/-- A CSR access at a misaligned or unmapped offset changes no register but W_BUSERR, and a read returns 0 (10_state R20,
R45); rdata is where the model keeps what a read returns (log 5). -/
def Obligations.CsrAccessOffTheMap : Prop :=
  ∀ (s : State) (off : Nat), s.flag .busy = false →
    (off % 4 ≠ 0 ∨ 0x300 ≤ off ∨ (0x080 ≤ off ∧ off < 0x100) ∨
      off ∈ [0x034, 0x038, 0x03C, 0x068, 0x06C]) →
    (s.nextTxn = some (.csrRead off) →
      step s = .next { s with rdata := 0#32, status := s.status ||| 0x00001000#32, pc := s.pc + 1 }) ∧
    ∀ v, s.nextTxn = some (.csrWrite off v) →
      step s = .next { s with status := s.status ||| 0x00001000#32, pc := s.pc + 1 }

/-- The CSR map names each register at one offset, and each mapped offset holds one register (10_state R20, R39). -/
def Obligations.CsrMapIsOneToOne : Prop :=
  (∀ c : Csr, csrAt (csrOffset c) = some c) ∧ ∀ (off : Nat) (c : Csr), csrAt off = some c → csrOffset c = off

/-- A host read of a register returns it and changes nothing (20_memory R66, R75): the command registers, and the parameters as
10_state R34 to R36 lay them out. rdata is where the model keeps what a read returns (log 5). -/
def Obligations.CsrReadsReturnRegisters : Prop :=
  ∀ (s : State), s.flag .busy = false →
    let reads (off : Nat) (v : Word) : Prop :=
      s.nextTxn = some (.csrRead off) → step s = .next { s with rdata := v, pc := s.pc + 1 }
    (reads 0x000 s.cmd ∧ reads 0x004 s.status ∧ reads 0x008 s.err ∧ reads 0x00C s.errInfo ∧ reads 0x010 s.ctrl) ∧
    (reads 0x020 s.a0 ∧ reads 0x024 s.a1 ∧ reads 0x028 s.a2 ∧ reads 0x02C s.a3 ∧ reads 0x030 s.a4) ∧
    (reads 0x040 s.r0 ∧ reads 0x044 s.r1 ∧ reads 0x048 s.r2 ∧ reads 0x04C s.r3) ∧
    (reads 0x050 s.frameCur ∧ reads 0x054 s.frameEnd ∧ reads 0x058 s.patBase ∧ reads 0x05C s.patSize) ∧
    (reads 0x014 (BitVec.ofNat 32 s.params.mfrId.toNat) ∧ reads 0x018 (BitVec.ofNat 32 s.params.modelId.toNat) ∧
      reads 0x01C (BitVec.ofNat 32 s.params.memBytes) ∧ reads 0x060 (BitVec.ofNat 32 s.params.sizeSmall) ∧
      reads 0x064 (BitVec.ofNat 32 s.params.sizeLarge)) ∧
    (∀ k : Fin 4, ∃ m : Word, reads (0x070 + 4 * k.val) m ∧
      ∀ j : Fin 4, (m >>> (24 - 8 * j.val)).toNat % 256 = (s.params.magic[4 * k.val + j.val]).toNat) ∧
    ∀ (b : Bool) (e : Fin 32), reads (0x100 + 0x100 * b.toNat + 8 * e.val) ((s.bank b)[e]).word0 ∧
      reads (0x100 + 0x100 * b.toNat + 8 * e.val + 4) ((s.bank b)[e]).word1

/-- A host write of CTRL keeps its four fields and drops the reserved bits (10_state R26); a host write of A0 to A4 stores the
value (R30); a host write of a read-only register changes nothing and sets no W_BUSERR (R45). -/
def Obligations.HostRegisterWrites : Prop :=
  ∀ (s : State) (off : Nat) (v : Word), s.flag .busy = false → s.nextTxn = some (.csrWrite off v) →
    (off = 0x010 → step s = .next { s with ctrl := v &&& 0x0000000F#32, pc := s.pc + 1 }) ∧
    (off = 0x020 → step s = .next { s with a0 := v, pc := s.pc + 1 }) ∧
    (off = 0x024 → step s = .next { s with a1 := v, pc := s.pc + 1 }) ∧
    (off = 0x028 → step s = .next { s with a2 := v, pc := s.pc + 1 }) ∧
    (off = 0x02C → step s = .next { s with a3 := v, pc := s.pc + 1 }) ∧
    (off = 0x030 → step s = .next { s with a4 := v, pc := s.pc + 1 }) ∧
    (off ∈ [0x008, 0x00C, 0x014, 0x018, 0x01C, 0x040, 0x044, 0x048, 0x04C, 0x050, 0x054, 0x058, 0x05C, 0x060, 0x064,
        0x070, 0x074, 0x078, 0x07C] → step s = .next { s with pc := s.pc + 1 })

/-- A host write to STATUS clears the W1C bits written as 1 and changes no other bit; a command sets warning bits and never
clears them, but for SOFT_RESET, which clears every one (10_state R23). -/
def Obligations.StatusWritesAndWarnings : Prop :=
  (∀ (s : State) (v : Word), s.flag .busy = false → s.nextTxn = some (.csrWrite 0x004 v) →
    ∃ t, step s = .next t ∧ t = { s with status := t.status, pc := s.pc + 1 } ∧
      ∀ j, j < 32 → t.status.getLsbD j = (s.status.getLsbD j && !(v.getLsbD j && isW1C j))) ∧
  (∀ (i : Instr) (s t : State), exec i s = .next t → i ≠ .softReset →
    ∀ b ∈ [StatusBit.wNonclean, .wDiscard, .wBcMismatch, .wCsBad, .wBusErr], s.flag b = true → t.flag b = true) ∧
  ∀ s t : State, exec .softReset s = .next t → ∀ b : StatusBit, t.flag b = false

/-- A host write of an FDT word stores its unreserved bits in that word of that entry alone; while a pattern of that bank is
open it then closes the pattern and clears MASK, and a write to the other bank does not (10_state R37 to R40). -/
def Obligations.FdtWriteClosesPatternInUse : Prop :=
  ∀ (s : State) (b hi : Bool) (e : Fin 32) (v : Word), s.flag .busy = false →
    s.nextTxn = some (.csrWrite (0x100 + 0x100 * b.toNat + 8 * e.val + 4 * hi.toNat) v) →
    ∃ t, step s = .next t ∧
      t = { s with fdt0 := t.fdt0, fdt1 := t.fdt1, status := t.status, mask := t.mask, pc := s.pc + 1 } ∧
      ((t.bank b)[e]).word0 = (if hi then ((s.bank b)[e]).word0 else v &&& 0x00FFFFFF#32) ∧
      ((t.bank b)[e]).word1 = (if hi then v &&& 0x800FFFFF#32 else ((s.bank b)[e]).word1) ∧
      (∀ (c : Bool) (k : Fin 32), ¬(c = b ∧ k = e) → (t.bank c)[k] = (s.bank c)[k]) ∧
      (s.flag .patOpen = true ∧ s.flag .patVariant = b →
        t.status = s.status &&& ~~~0x00010000#32 ∧ t.mask = []) ∧
      (¬(s.flag .patOpen = true ∧ s.flag .patVariant = b) → t.status = s.status ∧ t.mask = s.mask)

/-- The model's choice (logs 4 and 6). With no transaction left the block is idle and holds all of its state; in a state with
BUSY set, which no run reaches, a host access other than a read of STATUS is rejected and sets W_BUSERR (70_reset R247). -/
def Obligations.IdleAndBusySteps : Prop :=
  (∀ s : State, s.nextTxn = none → step s = .next s) ∧
  ∀ s : State, s.flag .busy = true →
    (s.nextTxn = some (.csrRead 0x004) → step s = .next { s with rdata := s.status, pc := s.pc + 1 }) ∧
    (∀ off, csrAt off ≠ some .status → s.nextTxn = some (.csrRead off) →
      step s = .next { s with rdata := 0#32, status := s.status ||| 0x00001000#32, pc := s.pc + 1 }) ∧
    (∀ a, s.nextTxn = some (.memRead a) →
      step s = .next { s with rdata := 0#32, status := s.status ||| 0x00001000#32, pc := s.pc + 1 }) ∧
    (∀ off v, s.nextTxn = some (.csrWrite off v) →
      step s = .next { s with status := s.status ||| 0x00001000#32, pc := s.pc + 1 }) ∧
    ∀ a v, s.nextTxn = some (.memWrite a v) →
      step s = .next { s with status := s.status ||| 0x00001000#32, pc := s.pc + 1 }

/-! ## Faults and whole-machine rules -/

/-- Fault entry writes ERR, ERR_INFO, STATUS.ERR and ERR_STICKY and nothing else, and BUSY is 0 after every CMD write
(60_exceptions R212). -/
def Obligations.FaultEntryRecords : Prop :=
  (∀ (s : State) (c : FaultCode) (n : Nat), s.raiseFault c n =
    { s with
      err := 0#16 ++ s.cmd.extractLsb' 0 8 ++ c.code, errInfo := BitVec.ofNat 32 n,
      status := s.status ||| 0x00000006#32 }) ∧
  ∀ (s t : State) (w : Word), s.nextCommand = some w → s.flag .busy = false → step s = .next t → t.flag .busy = false

/-- A command that ends in a fault raises one of the faults listed for it, and has no effect but fault entry (60_exceptions
R210, R228). -/
def Obligations.FaultingCommandChangesOnlyFaultRegisters : Prop :=
  ∀ (i : Instr) (s t : State), s.flag .err = false → exec i s = .next t → t.flag .err = true →
    ∃ c ∈ faultsOf i, ∃ n : Nat, t = { s with
      err := 0#16 ++ s.cmd.extractLsb' 0 8 ++ c.code, errInfo := BitVec.ofNat 32 n,
      status := s.status ||| 0x00000006#32 }

/-- After any command STATUS.ERR and ERR describe that command alone; ERR_INFO keeps its value until the next fault or
SOFT_RESET, and ERR_STICKY, once set, until a host write, SOFT_RESET or reset (60_exceptions R217). -/
def Obligations.ErrorRegistersDescribeLastCommand : Prop :=
  ∀ (s t : State) (w : Word), s.nextCommand = some w → s.flag .busy = false → step s = .next t →
    (t.flag .err = false → t.err = 0#32) ∧
    (t.flag .err = true → t.flag .errSticky = true ∧ t.err.extractLsb' 8 8 = w.extractLsb' 0 8 ∧
      ∃ c : FaultCode, t.err.extractLsb' 0 8 = c.code ∧ t.err.extractLsb' 0 8 ≠ 0#8) ∧
    (t.flag .err = false → decode w ≠ .ok .softReset → t.errInfo = s.errInfo ∧ t.flag .errSticky = s.flag .errSticky)

/-- No command but SOFT_RESET writes A0 to A4, CTRL or the FDT, and none writes CMD, the parameters or the host's side of the
bus (10_state R30, R47). -/
def Obligations.CommandsLeaveHostRegisters : Prop :=
  ∀ (i : Instr) (s t : State), exec i s = .next t →
    (t.cmd = s.cmd ∧ t.params = s.params ∧ t.script = s.script ∧ t.pc = s.pc ∧ t.rdata = s.rdata) ∧
    (i ≠ .softReset → t.a0 = s.a0 ∧ t.a1 = s.a1 ∧ t.a2 = s.a2 ∧ t.a3 = s.a3 ∧ t.a4 = s.a4 ∧ t.ctrl = s.ctrl ∧
      t.fdt0 = s.fdt0 ∧ t.fdt1 = s.fdt1)

/-- The framer state changes only through FRAME_RESET, FRAME_NEXT and SOFT_RESET: no other command and no host access changes
it (10_state R41). -/
def Obligations.FramerStateChangesOnlyThroughItsCommands : Prop :=
  ∀ s t : State, step s = .next t →
    (∀ w, s.nextCommand = some w → s.flag .busy = false →
      decode w ≠ .ok .frameReset ∧ decode w ≠ .ok .frameNext ∧ decode w ≠ .ok .softReset) →
    t.frameCur = s.frameCur ∧ t.frameEnd = s.frameEnd ∧ t.flag .frameActive = s.flag .frameActive

/-- MEM changes only where a command writes its output or the host writes a byte: a step whose transaction is neither a MEM
write nor a CMD write of a command that writes MEM leaves every address as it was (20_memory R66, R69). -/
def Obligations.OnlyWritersChangeMemory : Prop :=
  ∀ s t : State, step s = .next t → (∀ a v, s.nextTxn ≠ some (.memWrite a v)) →
    (∀ w i, s.nextCommand = some w → decode w = .ok i → writesMemory i = false) → SameMemory s t

/-! ## Invariants -/

/-- Every step keeps the parameters (10_state R34 to R36) and MEM in its canonical form, inside P_MEM_BYTES (20_memory R60). -/
def Obligations.StepKeepsMemoryCanonical : Prop :=
  ∀ s t : State, step s = .next t → t.params = s.params ∧ (MemoryCanonical s → MemoryCanonical t)

/-- Every step keeps the reserved bits of STATUS, ERR, CTRL and the FDT at 0, and BUSY at 0 between steps (10_state R22, R24,
R26, R37, R38, 70_reset R246). -/
def Obligations.StepKeepsReservedBitsClear : Prop :=
  ∀ s t : State, ReservedBitsClear s → step s = .next t → ReservedBitsClear t

/-- FRAME_CUR ≤ FRAME_END holds whenever FRAME_ACTIVE = 1 (10_state R32), and the rest of the stream lies inside MEM. -/
def Obligations.StepKeepsFramerOrdered : Prop :=
  ∀ s t : State, s.params.wellFormed = true → FramerOrdered s → step s = .next t → FramerOrdered t

/-- No command runs with a table that has not passed validation: an open pattern's bank is valid for its size after every
step, and its buffer lies inside MEM (70_reset R251, 43_pattern R171, R173). -/
def Obligations.StepKeepsOpenPatternValid : Prop :=
  ∀ s t : State, s.params.wellFormed = true → OpenPatternValid s → step s = .next t → OpenPatternValid t

/-- MASK is empty while no pattern is open and covers only bytes of VALID entries of class SAFE or PROVISIONAL, after every step
(10_state R43, 43_pattern R181, R182). -/
def Obligations.StepKeepsStageDisciplined : Prop :=
  ∀ s t : State, s.params.wellFormed = true → OpenPatternValid s → StageDisciplined s → step s = .next t →
    StageDisciplined t

/-- The state after power-on reset meets every invariant, whatever the open parameters are (00_scope R6, 70_reset R241). -/
def Obligations.ResetMeetsInvariant : Prop :=
  Invariant State.reset

/-- The reset values, and what SOFT_RESET leaves (70_reset R241, 44_control R201): CMD, the parameters, MEM and OVL keep theirs,
and every other register of the block has its power-on value. The host's side of the bus stays as it is (logs 4 and 5). -/
def Obligations.ResetValues : Prop :=
  (State.reset.cmd = 0#32 ∧ State.reset.status = 0#32 ∧ State.reset.err = 0#32 ∧ State.reset.errInfo = 0#32 ∧
    State.reset.ctrl = 0x00000004#32 ∧ State.reset.params = Config.params) ∧
  (State.reset.a0 = 0#32 ∧ State.reset.a1 = 0#32 ∧ State.reset.a2 = 0#32 ∧ State.reset.a3 = 0#32 ∧
    State.reset.a4 = 0#32 ∧ State.reset.r0 = 0#32 ∧ State.reset.r1 = 0#32 ∧ State.reset.r2 = 0#32 ∧
    State.reset.r3 = 0#32) ∧
  (State.reset.frameCur = 0#32 ∧ State.reset.frameEnd = 0#32 ∧ State.reset.patBase = 0#32 ∧
    State.reset.patSize = 0#32 ∧ State.reset.mask = []) ∧
  (∀ (b : Bool) (e : Fin 32), (State.reset.bank b)[e] = ⟨0#32, 0#32⟩) ∧
  ∀ s : State, exec .softReset s = .next { State.reset with
    cmd := s.cmd, params := s.params, mem := s.mem, ovl := s.ovl, script := s.script, pc := s.pc, rdata := s.rdata }

/-! ## The codec functions -/

/-- P(n) and U(L), and that PackFn and UnpackFn give those lengths (40_bitpack R102, R103). -/
def Obligations.PackedAndUnpackedLengths : Prop :=
  (∀ n, packedLen n = 8 * (n / 7) + (if n % 7 = 0 then 0 else n % 7 + 1) ∧ packedLen n = n + (n + 6) / 7) ∧
  (∀ l, unpackedLen l = 7 * (l / 8) + (if l % 8 ≤ 1 then 0 else l % 8 - 1) ∧ unpackedLen l = 7 * l / 8) ∧
  (∀ n, unpackedLen (packedLen n) = n) ∧
  (∀ raw : List Byte, (packFn raw).length = packedLen raw.length) ∧
  ∀ p : List Byte, (unpackFn p).length = unpackedLen p.length

/-- Where each bit of a raw byte goes: bit 7 of raw byte 7g+j to bit 6−j of packed byte 8g, the other seven bits to packed byte
8g+1+j, whose bit 7 is 0; every other header bit is 0 (40_bitpack R100, R101). -/
def Obligations.PackedBitPositions : Prop :=
  ∀ (raw : List Byte) (g : Nat), 7 * g < raw.length → ∃ h, (packFn raw)[8 * g]? = some h ∧
    (∀ j b, j < 7 → raw[7 * g + j]? = some b →
      h.getLsbD (6 - j) = b.getLsbD 7 ∧ (packFn raw)[8 * g + 1 + j]? = some (b &&& 0x7F#8)) ∧
    (∀ j, j < 7 → raw[7 * g + j]? = none → h.getLsbD (6 - j) = false) ∧ h.getLsbD 7 = false

/-- Round trip, and the canonical law: packing what was unpacked gives the packed bytes back exactly when they are canonical:
all 7-bit clean, no lone header at the end, and no header bit set for a byte that a partial last group lacks (40_bitpack
R108). -/
def Obligations.PackUnpackLaws : Prop :=
  (∀ x : List Byte, unpackFn (packFn x) = x ∧ firstNonclean (packFn x) = none) ∧
  ∀ p : List Byte, packFn (unpackFn p) = p ↔
    (∀ b ∈ p, b.getLsbD 7 = false) ∧ p.length % 8 ≠ 1 ∧
      (∀ h r, p[8 * (p.length / 8)]? = some h → r = p.length % 8 - 1 → ∀ k, k ≤ 6 - r → h.getLsbD k = false)

/-- The checksum laws: a checksum verifies, it makes the sum 0 mod 128, a flip of a bit below bit 7 anywhere is caught, and a
flip of bit 7 anywhere is not (41_checksum R124). -/
def Obligations.ChecksumLaws : Prop :=
  ∀ b : List Byte,
    (∀ e : Byte, e.toNat = checksumFn b → verifyFn b e = true ∧
      ∀ i, i < 8 → verifyFn b (e ^^^ (1#8 <<< i)) = decide (i = 7)) ∧
    ((b.map BitVec.toNat).sum + checksumFn b) % 128 = 0 ∧ checksumFn b < 128 ∧
    ∀ (k i : Nat) (v : Byte) (e : Byte), b[k]? = some v → i < 8 → e.toNat = checksumFn b →
      verifyFn (b.set k (v ^^^ (1#8 <<< i))) e = decide (i = 7)

/-! ## Commands: packing and checksum -/

/-- PACK completes: MEM holds the packed bytes at A2, R0 their number, and nothing else has changed (40_bitpack R109). -/
def Obligations.PackCompletes : Prop :=
  ∀ (s : State) (raw : List Byte), raw.length = s.a1.toNat → HasBytes s s.a0.toNat raw →
    packedLen raw.length ≤ s.a4.toNat → Fits s s.a2.toNat (packedLen raw.length) →
    Apart s.a0.toNat raw.length s.a2.toNat (packedLen raw.length) →
    ∃ t, exec .pack s = .next t ∧ t = { s with mem := t.mem, r0 := BitVec.ofNat 32 (packedLen raw.length) } ∧
      StoredAt s t s.a2.toNat (packFn raw)

/-- UNPACK completes: MEM holds the raw bytes at A2, R0 their number, W_NONCLEAN is set if a packed byte has bit 7 set, and
nothing else has changed (40_bitpack R110). -/
def Obligations.UnpackCompletes : Prop :=
  ∀ (s : State) (p : List Byte), p.length = s.a1.toNat → HasBytes s s.a0.toNat p →
    ((∀ b ∈ p, b.getLsbD 7 = false) ∨ s.ctrl.getLsbD 3 = false) →
    unpackedLen p.length ≤ s.a4.toNat → Fits s s.a2.toNat (unpackedLen p.length) →
    Apart s.a0.toNat p.length s.a2.toNat (unpackedLen p.length) →
    ∃ t, exec .unpack s = .next t ∧
      t = { s with
        mem := t.mem, r0 := BitVec.ofNat 32 (unpackedLen p.length),
        status := if p.any (fun b => b.getLsbD 7) then s.status ||| 0x00000100#32 else s.status } ∧
      StoredAt s t s.a2.toNat (unpackFn p)

/-- Where PACK and UNPACK fault, in the order of 60_exceptions R214 (40_bitpack R107, R109, R110). -/
def Obligations.PackAndUnpackFaults : Prop :=
  (∀ s : State, ¬Fits s s.a0.toNat s.a1.toNat →
    exec .pack s = .next (s.raiseFault .bounds s.a0.toNat) ∧
      exec .unpack s = .next (s.raiseFault .bounds s.a0.toNat)) ∧
  (∀ (s : State) (raw : List Byte), raw.length = s.a1.toNat → HasBytes s s.a0.toNat raw →
    (s.a4.toNat < packedLen raw.length →
      exec .pack s = .next (s.raiseFault .capacity (packedLen raw.length))) ∧
    (packedLen raw.length ≤ s.a4.toNat → ¬Fits s s.a2.toNat (packedLen raw.length) →
      exec .pack s = .next (s.raiseFault .bounds s.a2.toNat)) ∧
    (packedLen raw.length ≤ s.a4.toNat → Fits s s.a2.toNat (packedLen raw.length) →
      ¬Apart s.a0.toNat raw.length s.a2.toNat (packedLen raw.length) →
      exec .pack s = .next (s.raiseFault .overlap s.a2.toNat))) ∧
  ∀ (s : State) (p : List Byte), p.length = s.a1.toNat → HasBytes s s.a0.toNat p →
    (∀ i, s.ctrl.getLsbD 3 = true → (∃ b, p[i]? = some b ∧ b.getLsbD 7 = true) →
      (∀ j, j < i → ∀ b, p[j]? = some b → b.getLsbD 7 = false) →
      exec .unpack s = .next (s.raiseFault .noncleanInput (s.a0.toNat + i))) ∧
    (((∀ b ∈ p, b.getLsbD 7 = false) ∨ s.ctrl.getLsbD 3 = false) →
      (s.a4.toNat < unpackedLen p.length →
        exec .unpack s = .next (s.raiseFault .capacity (unpackedLen p.length))) ∧
      (unpackedLen p.length ≤ s.a4.toNat → ¬Fits s s.a2.toNat (unpackedLen p.length) →
        exec .unpack s = .next (s.raiseFault .bounds s.a2.toNat)) ∧
      (unpackedLen p.length ≤ s.a4.toNat → Fits s s.a2.toNat (unpackedLen p.length) →
        ¬Apart s.a0.toNat p.length s.a2.toNat (unpackedLen p.length) →
        exec .unpack s = .next (s.raiseFault .overlap s.a2.toNat)))

/-- CHECKSUM completes: R0 is (128 − (sum mod 128)) mod 128, and nothing else has changed, every address of MEM included
(41_checksum R120, R125). -/
def Obligations.ChecksumCompletes : Prop :=
  ∀ (s : State) (bs : List Byte), bs.length = s.a1.toNat → HasBytes s s.a0.toNat bs →
    ∃ t, exec .checksum s = .next t ∧
      t = { s with r0 := BitVec.ofNat 32 ((128 - (bs.map BitVec.toNat).sum % 128) % 128) } ∧ SameMemory s t

/-- VERIFY completes for an expected byte in layout EXP8: R0 tells whether sum and expected byte are 0 mod 128, R1 is the
checksum, and nothing else has changed; with a reserved bit of A3 set it faults BAD_ARGUMENT (41_checksum R122, R126). -/
def Obligations.VerifyCompletes : Prop :=
  (∀ (s : State) (bs : List Byte), bs.length = s.a1.toNat → HasBytes s s.a0.toNat bs → s.a3.toNat < 256 →
    ∃ t, exec .verify s = .next t ∧
      t = { s with
        r0 := if ((bs.map BitVec.toNat).sum + s.a3.toNat) % 128 = 0 then 1#32 else 0#32,
        r1 := BitVec.ofNat 32 ((128 - (bs.map BitVec.toNat).sum % 128) % 128) } ∧ SameMemory s t) ∧
  ∀ s : State, 256 ≤ s.a3.toNat → exec .verify s = .next (s.raiseFault .badArgument s.a3.toNat)

/-- Where the commands that read a source range at A0 fault or stop on it: BOUNDS, with the range's address, for those that
check nothing else before and after (00_scope R13, 41_checksum R125, R126, 42_sysex R132, R138); and, for each that reads the
range, UNINIT_READ at the first byte of it that nothing has written, the model's choice (60_exceptions R225, logs 2 and 9). -/
def Obligations.SourceRangeFaults : Prop :=
  (∀ s : State, ¬Fits s s.a0.toNat s.a1.toNat →
    exec .checksum s = .next (s.raiseFault .bounds s.a0.toNat) ∧
    (s.a3.toNat < 256 → exec .verify s = .next (s.raiseFault .bounds s.a0.toNat)) ∧
    exec .frameReset s = .next (s.raiseFault .bounds s.a0.toNat) ∧
    exec .classify s = .next (s.raiseFault .bounds s.a0.toNat)) ∧
  ∀ (s : State) (a : Nat), Fits s s.a0.toNat s.a1.toNat → s.a0.toNat ≤ a → a < s.a0.toNat + s.a1.toNat →
    s.peek a = none → (∀ b, s.a0.toNat ≤ b → b < a → s.peek b ≠ none) →
    exec .pack s = .fault (.uninitRead a) ∧ exec .unpack s = .fault (.uninitRead a) ∧
    exec .checksum s = .fault (.uninitRead a) ∧ (s.a3.toNat < 256 → exec .verify s = .fault (.uninitRead a)) ∧
    exec .classify s = .fault (.uninitRead a) ∧
    (s.ctrl.extractLsb' 0 2 ≠ 3#2 → exec .decodeBulk s = .fault (.uninitRead a)) ∧
    ∀ dev : BitVec 4, s.a3 &&& 0xFF808080#32 = 0#32 → s.a1.toNat ≤ 14335 →
      exec (.encodeBulk dev) s = .fault (.uninitRead a)

/-! ## Commands: SysEx -/

/-- FRAME_RESET completes: FRAME_CUR = A0, FRAME_END = A0 + A1, FRAME_ACTIVE = 1, and nothing else has changed (42_sysex
R132). -/
def Obligations.FrameResetCompletes : Prop :=
  ∀ s : State, Fits s s.a0.toNat s.a1.toNat →
    ∃ t, exec .frameReset s = .next t ∧
      t = { s with frameCur := s.a0, frameEnd := s.a0 + s.a1, status := s.status ||| 0x00040000#32 } ∧ SameMemory s t

/-- FRAME_NEXT completes. When the rest of the stream begins with junk that holds no run and then a run, it yields the run from
its START to its END and moves past it; when the rest of the stream is such junk alone, it moves to the end. Either way R3 counts
the STARTs whose run was discarded, W_DISCARD is set if there was one, and nothing else changes. With no stream set up it
faults NOT_READY (42_sysex R131, R133). -/
def Obligations.FrameNextCompletes : Prop :=
  (∀ (s : State) (u v body : List Byte), s.flag .frameActive = true → startByte ∉ u → endByte ∉ v → Plain body →
    HasBytes s s.frameCur.toNat (u ++ v ++ wrap body) →
    s.frameCur.toNat + (u ++ v ++ wrap body).length ≤ s.frameEnd.toNat →
    ∃ t, exec .frameNext s = .next t ∧
      t = { s with
        frameCur := BitVec.ofNat 32 (s.frameCur.toNat + (u ++ v).length + (body.length + 2)),
        r0 := 1#32, r1 := BitVec.ofNat 32 (s.frameCur.toNat + (u ++ v).length),
        r2 := BitVec.ofNat 32 (body.length + 2), r3 := BitVec.ofNat 32 (v.count startByte),
        status := if v.count startByte > 0 then s.status ||| 0x00000200#32 else s.status } ∧ SameMemory s t) ∧
  (∀ (s : State) (u v : List Byte), s.flag .frameActive = true → startByte ∉ u → endByte ∉ v →
    HasBytes s s.frameCur.toNat (u ++ v) → s.frameCur.toNat + (u ++ v).length = s.frameEnd.toNat →
    ∃ t, exec .frameNext s = .next t ∧
      t = { s with
        frameCur := s.frameEnd, r0 := 0#32, r1 := 0#32, r2 := 0#32, r3 := BitVec.ofNat 32 (v.count startByte),
        status := if v.count startByte > 0 then s.status ||| 0x00000200#32 else s.status } ∧ SameMemory s t) ∧
  ∀ s : State, s.flag .frameActive = false → exec .frameNext s = .next (s.raiseFault .notReady 0)

/-- The framing law: from a stream of messages with junk between them that holds no run, FRAME_NEXT yields exactly the
messages, in order (42_sysex R146). -/
def Obligations.FramerYieldsExactlyTheMessages : Prop :=
  ∀ (s : State) (ms : List (List Byte × List Byte)) (last : List Byte), s.flag .frameActive = true →
    (∀ m ∈ ms, Junk m.1 ∧ Plain m.2) → Junk last →
    HasBytes s s.frameCur.toNat (streamOf ms last) →
    s.frameCur.toNat + (streamOf ms last).length = s.frameEnd.toNat →
    framerSpans (ms.length + 1) s = spansOf s.frameCur.toNat ms

/-- CLASSIFY completes with ClassifyFn's kind, reason, device and type nibble in R0 to R3, and nothing else changed (42_sysex
R135, R138). -/
def Obligations.ClassifyCompletes : Prop :=
  ∀ (s : State) (m : List Byte), m.length = s.a1.toNat → HasBytes s s.a0.toNat m →
    ∃ t, exec .classify s = .next t ∧
      t = { s with
        r0 := BitVec.ofNat 32 (classifyFn s.params m).kind.code, r1 := BitVec.ofNat 32 (classifyFn s.params m).reason.code,
        r2 := BitVec.ofNat 32 (classifyFn s.params m).dev, r3 := BitVec.ofNat 32 (classifyFn s.params m).typ } ∧
      SameMemory s t

/-- What each kind of message looks like: a bulk dump is START, MFR, a type nibble 0, MODEL, at least six bytes and END; Init
and Close are the two 9-byte constants of each device number; a parameter change or a dump request has at least 9 or 8 bytes;
a message with delimiters but other ids is UNSUPPORTED (42_sysex R134, R136, R137). -/
def Obligations.ClassifiedKinds : Prop :=
  ∀ (p : Params) (m : List Byte),
    let framed := 5 ≤ m.length ∧ m[0]? = some 0xF0#8 ∧ m[m.length - 1]? = some 0xF7#8
    let ours := framed ∧ m[1]? = some (p.mfrId.setWidth 8) ∧ m[3]? = some (p.modelId.setWidth 8)
    let isInit := ∃ dev : BitVec 4, m = controlMessage p dev 0x01#8
    let isClose := ∃ dev : BitVec 4, m = controlMessage p dev 0x00#8
    let nibble (t : Nat) := ∃ b : Byte, m[2]? = some b ∧ b.toNat / 16 = t
    ((classifyFn p m).kind = .bulkDump ↔ ours ∧ nibble 0 ∧ 11 ≤ m.length) ∧
    ((classifyFn p m).kind = .paramInit ↔ isInit) ∧
    ((classifyFn p m).kind = .paramClose ↔ isClose) ∧
    ((classifyFn p m).kind = .paramChange ↔ ours ∧ nibble 1 ∧ 9 ≤ m.length ∧ ¬isInit ∧ ¬isClose) ∧
    ((classifyFn p m).kind = .dumpRequest ↔ ours ∧ nibble 2 ∧ 8 ≤ m.length) ∧
    ((classifyFn p m).reason = .unsupported ↔ framed ∧ ¬ours) ∧
    ((classifyFn p m).reason = .unknownType ↔ ours ∧ ∃ t, 3 ≤ t ∧ nibble t) ∧
    ((classifyFn p m).reason = .ok ↔ (classifyFn p m).kind ≠ .unknown) ∧
    (framed → ∀ b : Byte, m[2]? = some b →
      (classifyFn p m).dev = b.toNat % 16 ∧ (classifyFn p m).typ = b.toNat / 16) ∧
    (¬framed → classifyFn p m = ⟨.unknown, .malformed, 0, 0⟩)

/-- DECODE_BULK completes on a bulk dump: the unpacked payload at A2, its length, the byte count, the address triple and the
report in R0 to R3, the three warnings as the message has cause, and nothing else changed (42_sysex R139 to R142). -/
def Obligations.DecodeBulkCompletes : Prop :=
  ∀ (s : State) (dev : BitVec 4) (bh bl ah am al cs : Byte) (payload : List Byte),
    let head := [bh, bl, ah, am, al]
    let m := [0xF0#8, s.params.mfrId.setWidth 8, dev.setWidth 8, s.params.modelId.setWidth 8] ++ head ++ payload
      ++ [cs, 0xF7#8]
    let span := if s.ctrl.extractLsb' 0 2 = 0#2 then head ++ payload
      else if s.ctrl.extractLsb' 0 2 = 1#2 then [ah, am, al] ++ payload else [ah, am, al]
    let sum := (span.map BitVec.toNat).sum
    let bc := 128 * (bh.toNat % 128) + bl.toNat % 128
    let nonclean := (head ++ payload ++ [cs]).any fun b => b.getLsbD 7
    let n := unpackedLen payload.length
    m.length = s.a1.toNat → HasBytes s s.a0.toNat m → s.ctrl.extractLsb' 0 2 ≠ 3#2 →
    (nonclean = false ∨ s.ctrl.getLsbD 3 = false) → n ≤ s.a4.toNat → Fits s s.a2.toNat n →
    Apart s.a0.toNat m.length s.a2.toNat n →
    ∃ t, exec .decodeBulk s = .next t ∧
      t = { s with
        mem := t.mem, r0 := BitVec.ofNat 32 n, r1 := BitVec.ofNat 32 bc,
        r2 := BitVec.ofNat 32 (65536 * (ah.toNat % 128) + 256 * (am.toNat % 128) + al.toNat % 128),
        r3 := BitVec.ofNat 32 (cs.toNat + 256 * ((128 - sum % 128) % 128)
          + (if (sum + cs.toNat) % 128 = 0 then 65536 else 0) + (if bc = payload.length then 131072 else 0)
          + 16777216 * dev.toNat),
        status := s.status ||| (if (sum + cs.toNat) % 128 = 0 then 0#32 else 0x00000800#32)
          ||| (if bc = payload.length then 0#32 else 0x00000400#32)
          ||| (if nonclean then 0x00000100#32 else 0#32) } ∧
      StoredAt s t s.a2.toNat (unpackFn payload)

/-- Where DECODE_BULK faults, in order: the reserved span, the source range, other ids, another kind, in strict mode the first
byte after the header with bit 7 set, then the capacity, the destination range and an overlap (42_sysex R142, 60_exceptions
R214). -/
def Obligations.DecodeBulkFaults : Prop :=
  ∀ s : State,
    (s.ctrl.extractLsb' 0 2 = 3#2 → exec .decodeBulk s = .next (s.raiseFault .reservedControl 3)) ∧
    (s.ctrl.extractLsb' 0 2 ≠ 3#2 →
      (¬Fits s s.a0.toNat s.a1.toNat → exec .decodeBulk s = .next (s.raiseFault .bounds s.a0.toNat)) ∧
      ∀ m : List Byte, m.length = s.a1.toNat → HasBytes s s.a0.toNat m →
        ((classifyFn s.params m).reason = .unsupported →
          exec .decodeBulk s = .next (s.raiseFault .unsupportedMfrModel s.a0.toNat)) ∧
        ((classifyFn s.params m).reason ≠ .unsupported → (classifyFn s.params m).kind ≠ .bulkDump →
          exec .decodeBulk s = .next (s.raiseFault .malformedMessage
            ((classifyFn s.params m).kind.code + 256 * (classifyFn s.params m).reason.code))) ∧
        ((classifyFn s.params m).kind = .bulkDump → ∀ i, 4 ≤ i → i + 2 ≤ m.length → s.ctrl.getLsbD 3 = true →
          (∃ b, m[i]? = some b ∧ b.getLsbD 7 = true) →
          (∀ j b, 4 ≤ j → j < i → m[j]? = some b → b.getLsbD 7 = false) →
          exec .decodeBulk s = .next (s.raiseFault .noncleanInput (s.a0.toNat + i))) ∧
        let n := unpackedLen (m.length - 11)
        (classifyFn s.params m).kind = .bulkDump →
          (s.ctrl.getLsbD 3 = false ∨ ∀ j b, 4 ≤ j → j + 2 ≤ m.length → m[j]? = some b → b.getLsbD 7 = false) →
          (s.a4.toNat < n → exec .decodeBulk s = .next (s.raiseFault .capacity n)) ∧
          (n ≤ s.a4.toNat → ¬Fits s s.a2.toNat n → exec .decodeBulk s = .next (s.raiseFault .bounds s.a2.toNat)) ∧
          (n ≤ s.a4.toNat → Fits s s.a2.toNat n → ¬Apart s.a0.toNat m.length s.a2.toNat n →
            exec .decodeBulk s = .next (s.raiseFault .overlap s.a2.toNat)))

/-- ENCODE_BULK completes: the whole message at A2, its length, the packed length and the checksum in R0 to R2, and nothing
else changed (42_sysex R139, R140, R143). -/
def Obligations.EncodeBulkCompletes : Prop :=
  ∀ (s : State) (dev : BitVec 4) (ah am al : BitVec 7) (raw : List Byte),
    let k := packedLen raw.length
    let body := [BitVec.ofNat 8 (k / 128), BitVec.ofNat 8 (k % 128), ah.setWidth 8, am.setWidth 8, al.setWidth 8]
      ++ packFn raw
    let cs := (128 - (body.map BitVec.toNat).sum % 128) % 128
    let msg := [0xF0#8, s.params.mfrId.setWidth 8, dev.setWidth 8, s.params.modelId.setWidth 8] ++ body
      ++ [BitVec.ofNat 8 cs, 0xF7#8]
    s.a3 = 0#9 ++ ah ++ 0#1 ++ am ++ 0#1 ++ al → raw.length = s.a1.toNat → HasBytes s s.a0.toNat raw →
    raw.length ≤ 14335 → k + 11 ≤ s.a4.toNat → Fits s s.a2.toNat (k + 11) →
    Apart s.a0.toNat raw.length s.a2.toNat (k + 11) →
    ∃ t, exec (.encodeBulk dev) s = .next t ∧
      t = { s with
        mem := t.mem, r0 := BitVec.ofNat 32 (k + 11), r1 := BitVec.ofNat 32 k, r2 := BitVec.ofNat 32 cs } ∧
      StoredAt s t s.a2.toNat msg

/-- ENCODE_INIT and ENCODE_CLOSE complete: the 9-byte constant of the device at A2, R0 = 9, and nothing else changed; they fault
CAPACITY and BOUNDS in that order (42_sysex R144, R145). -/
def Obligations.EncodeControlCompletes : Prop :=
  ∀ (s : State) (dev : BitVec 4),
    let msg (mark : Byte) : List Byte := [0xF0#8, s.params.mfrId.setWidth 8, BitVec.ofNat 8 (16 + dev.toNat),
      s.params.modelId.setWidth 8, 0#8, 0#8, 0#8, mark, 0xF7#8]
    (9 ≤ s.a4.toNat → Fits s s.a2.toNat 9 →
      (∃ t, exec (.encodeInit dev) s = .next t ∧ t = { s with mem := t.mem, r0 := 9#32 } ∧
        StoredAt s t s.a2.toNat (msg 0x01#8)) ∧
      (∃ t, exec (.encodeClose dev) s = .next t ∧ t = { s with mem := t.mem, r0 := 9#32 } ∧
        StoredAt s t s.a2.toNat (msg 0x00#8))) ∧
    (s.a4.toNat < 9 → exec (.encodeInit dev) s = .next (s.raiseFault .capacity 9) ∧
      exec (.encodeClose dev) s = .next (s.raiseFault .capacity 9)) ∧
    (9 ≤ s.a4.toNat → ¬Fits s s.a2.toNat 9 →
      exec (.encodeInit dev) s = .next (s.raiseFault .bounds s.a2.toNat) ∧
      exec (.encodeClose dev) s = .next (s.raiseFault .bounds s.a2.toNat))

/-- Where ENCODE_BULK faults, in order: a reserved bit of A3, a raw length over 14335, the source range, the capacity, the
destination range, an overlap (42_sysex R143, 30_encoding R88). -/
def Obligations.EncodeBulkFaults : Prop :=
  ∀ (s : State) (dev : BitVec 4),
    (s.a3 &&& 0xFF808080#32 ≠ 0#32 → exec (.encodeBulk dev) s = .next (s.raiseFault .badArgument s.a3.toNat)) ∧
    (s.a3 &&& 0xFF808080#32 = 0#32 →
      (14335 < s.a1.toNat → exec (.encodeBulk dev) s = .next (s.raiseFault .payloadTooLong s.a1.toNat)) ∧
      (s.a1.toNat ≤ 14335 →
        (¬Fits s s.a0.toNat s.a1.toNat → exec (.encodeBulk dev) s = .next (s.raiseFault .bounds s.a0.toNat)) ∧
        ∀ raw : List Byte, raw.length = s.a1.toNat → HasBytes s s.a0.toNat raw →
          (s.a4.toNat < packedLen raw.length + 11 →
            exec (.encodeBulk dev) s = .next (s.raiseFault .capacity (packedLen raw.length + 11))) ∧
          (packedLen raw.length + 11 ≤ s.a4.toNat → ¬Fits s s.a2.toNat (packedLen raw.length + 11) →
            exec (.encodeBulk dev) s = .next (s.raiseFault .bounds s.a2.toNat)) ∧
          (packedLen raw.length + 11 ≤ s.a4.toNat → Fits s s.a2.toNat (packedLen raw.length + 11) →
            ¬Apart s.a0.toNat raw.length s.a2.toNat (packedLen raw.length + 11) →
            exec (.encodeBulk dev) s = .next (s.raiseFault .overlap s.a2.toNat))))

/-- The codec law: what ENCODE_BULK has written, DECODE_BULK with CS_SPAN = 0 turns back into the raw payload, with its length,
packed length and address triple, CS_OK and BC_MATCH set, the device number, and no warning (42_sysex R147). -/
def Obligations.DecodeBulkInvertsEncodeBulk : Prop :=
  ∀ (s t : State) (dev : BitVec 4) (raw : List Byte) (dst cap ctrl : Word),
    s.flag .err = false → exec (.encodeBulk dev) s = .next t → t.flag .err = false →
    raw.length = s.a1.toNat → HasBytes s s.a0.toNat raw →
    ctrl.extractLsb' 0 2 = 0#2 → raw.length ≤ cap.toNat → Fits s dst.toNat raw.length →
    Apart s.a2.toNat t.r0.toNat dst.toNat raw.length →
    let u := { t with a0 := s.a2, a1 := t.r0, a2 := dst, a4 := cap, ctrl := ctrl }
    ∃ v, exec .decodeBulk u = .next v ∧
      v = { u with
        mem := v.mem, r0 := s.a1, r1 := BitVec.ofNat 32 (packedLen raw.length), r2 := s.a3, r3 := v.r3 } ∧
      v.r3.getLsbD 16 = true ∧ v.r3.getLsbD 17 = true ∧ v.r3.extractLsb' 24 4 = dev ∧
      StoredAt u v dst.toNat raw

/-! ## Commands: patterns -/

/-- ValidateFDT: OK exactly when every VALID entry passes V1 to V5, no byte of a writable entry is a byte of a PRESERVE entry
(V6), and the lengths sum to at most the size (V7); otherwise the index of the first VALID entry that fails V1 to V5, or else of
the first writable one that fails V6, or else 32 (43_pattern R173). -/
def Obligations.FdtValidation : Prop :=
  ∀ (bank : FdtBank) (size : Nat),
    let legal (e : FdtEntry) : Prop :=
      (1 ≤ e.elemLen ∧ 1 ≤ e.count) ∧ (e.cls ≠ .reserved ∧ e.typ ≠ .reserved) ∧
        ((e.typ = .u8 → e.elemLen = 1) ∧ (e.typ = .u16be → e.elemLen = 2)) ∧
        e.start + e.elemLen * e.count ≤ size ∧ ((e.cls = .safe ∨ e.cls = .provisional) → 16 ≤ e.start)
    let covers (e : FdtEntry) (x : Nat) : Prop := e.start ≤ x ∧ x < e.start + e.elemLen * e.count
    let fails (i : Fin 32) : Prop := bank[i].valid = true ∧ ¬legal bank[i]
    let clashes (i : Fin 32) : Prop := bank[i].valid = true ∧ (bank[i].cls = .safe ∨ bank[i].cls = .provisional) ∧
      ∃ (k : Fin 32) (x : Nat), bank[k].valid = true ∧ bank[k].cls = .preserve ∧ covers bank[i] x ∧ covers bank[k] x
    let total := ∑ i : Fin 32, if bank[i].valid then bank[i].elemLen * bank[i].count else 0
    (validateFdt bank size = none ↔ (∀ i, ¬fails i) ∧ (∀ i, ¬clashes i) ∧ total ≤ size) ∧
    (∀ i : Fin 32, fails i → (∀ k, k < i → ¬fails k) → validateFdt bank size = some i.val) ∧
    (∀ i : Fin 32, (∀ k, ¬fails k) → clashes i → (∀ k, k < i → ¬clashes k) → validateFdt bank size = some i.val) ∧
    ((∀ k, ¬fails k) → (∀ k, ¬clashes k) → size < total → validateFdt bank size = some 32)

/-- PAT_OPEN completes on a buffer of either size that begins with the magic and whose FDT bank is valid: PAT_BASE, PAT_SIZE,
PAT_OPEN and PAT_VARIANT are set, MASK is cleared, R0 is the variant, and nothing else has changed (43_pattern R176). -/
def Obligations.PatOpenCompletes : Prop :=
  ∀ (s : State) (b : Bool), s.params.sizeSmall < s.params.sizeLarge →
    s.a1.toNat = (if b then s.params.sizeLarge else s.params.sizeSmall) → Fits s s.a0.toNat s.a1.toNat →
    (∀ i : Fin 16, s.peek (s.a0.toNat + i.val) = some (s.params.magic[i].setWidth 8)) →
    validateFdt (s.bank b) s.a1.toNat = none →
    ∃ t, exec .patOpen s = .next t ∧
      t = { s with
        patBase := s.a0, patSize := s.a1, mask := [], r0 := if b then 1#32 else 0#32,
        status := (s.status &&& ~~~0x00020000#32) ||| 0x00010000#32 ||| (if b then 0x00020000#32 else 0#32) } ∧
      SameMemory s t

/-- Where PAT_OPEN faults, in order: another length, the range, the magic, the FDT (43_pattern R176). -/
def Obligations.PatOpenFaults : Prop :=
  ∀ s : State,
    (s.a1.toNat ≠ s.params.sizeSmall → s.a1.toNat ≠ s.params.sizeLarge →
      exec .patOpen s = .next (s.raiseFault .invalidFileSize s.a1.toNat)) ∧
    ∀ b : Bool, s.params.sizeSmall < s.params.sizeLarge →
      s.a1.toNat = (if b then s.params.sizeLarge else s.params.sizeSmall) →
      (¬Fits s s.a0.toNat s.a1.toNat → exec .patOpen s = .next (s.raiseFault .bounds s.a0.toNat)) ∧
      (Fits s s.a0.toNat s.a1.toNat → ∀ h : List Byte, h.length = 16 → HasBytes s s.a0.toNat h →
        (h ≠ s.params.magic.toList.map (fun x => x.setWidth 8) →
          exec .patOpen s = .next (s.raiseFault .invalidFileHeader s.a0.toNat)) ∧
        (h = s.params.magic.toList.map (fun x => x.setWidth 8) → ∀ v, validateFdt (s.bank b) s.a1.toNat = some v →
          exec .patOpen s = .next (s.raiseFault .descriptorInvalid v)))

/-- PAT_GET completes for each type: a U8 element's byte, a U16BE element's big-endian value, or a BYTES element copied to A2,
in R0 (its length for BYTES), the element's offset in R1, and nothing else changed (43_pattern R174, R177). -/
def Obligations.PatGetCompletes : Prop :=
  ∀ (s : State) (fid : BitVec 5),
    let e := (if s.flag .patVariant then s.fdt1 else s.fdt0)[fid.toFin]
    let off := e.start + s.a3.toNat * e.elemLen
    let p := s.patBase.toNat + off
    s.flag .patOpen = true → e.valid = true → s.a3.toNat < e.count →
    (∀ v, e.typ = .u8 → s.peek p = some v →
      ∃ t, exec (.patGet fid) s = .next t ∧
        t = { s with r0 := BitVec.ofNat 32 v.toNat, r1 := BitVec.ofNat 32 off } ∧ SameMemory s t) ∧
    (∀ b0 b1, e.typ = .u16be → s.peek p = some b0 → s.peek (p + 1) = some b1 →
      ∃ t, exec (.patGet fid) s = .next t ∧
        t = { s with r0 := BitVec.ofNat 32 (b0.toNat * 256 + b1.toNat), r1 := BitVec.ofNat 32 off } ∧ SameMemory s t) ∧
    (∀ v : List Byte, e.typ = .bytes → v.length = e.elemLen → HasBytes s p v → e.elemLen ≤ s.a4.toNat →
      Fits s s.a2.toNat e.elemLen → Apart p e.elemLen s.a2.toNat e.elemLen →
      ∃ t, exec (.patGet fid) s = .next t ∧
        t = { s with mem := t.mem, r0 := BitVec.ofNat 32 e.elemLen, r1 := BitVec.ofNat 32 off } ∧
        StoredAt s t s.a2.toNat v)

/-- PAT_SECTION_ENABLED completes: R1 is the pointer, R0 is 0 exactly for the sentinel 0xFEFE, and nothing else has changed
(43_pattern R179, R180). -/
def Obligations.PatSectionEnabledCompletes : Prop :=
  ∀ (s : State) (fid : BitVec 5) (b0 b1 : Byte),
    let e := (if s.flag .patVariant then s.fdt1 else s.fdt0)[fid.toFin]
    let p := s.patBase.toNat + (e.start + s.a3.toNat * e.elemLen)
    s.flag .patOpen = true → e.valid = true → e.typ = .u16be → s.a3.toNat < e.count →
    s.peek p = some b0 → s.peek (p + 1) = some b1 →
    ∃ t, exec (.patSectionEnabled fid) s = .next t ∧
      t = { s with
        r0 := if b0 = 0xFE#8 ∧ b1 = 0xFE#8 then 0#32 else 1#32,
        r1 := BitVec.ofNat 32 (b0.toNat * 256 + b1.toNat) } ∧ SameMemory s t

/-- PAT_WRITE_SAFE completes on a SAFE field, and on a PROVISIONAL one while PROV_EN is 1: the element's bytes are staged and
masked, R0 and R1 are its offset and length, and nothing else has changed, MEM included (43_pattern R181, R182). -/
def Obligations.PatWriteSafeCompletes : Prop :=
  ∀ (s : State) (fid : BitVec 5) (v : List Byte),
    let e := (if s.flag .patVariant then s.fdt1 else s.fdt0)[fid.toFin]
    let off := e.start + s.a3.toNat * e.elemLen
    s.flag .patOpen = true → e.valid = true → s.a3.toNat < e.count →
    (e.cls = .safe ∨ (e.cls = .provisional ∧ s.ctrl.getLsbD 2 = true)) →
    v.length = e.elemLen → HasBytes s s.a0.toNat v →
    ∃ t, exec (.patWriteSafe fid) s = .next t ∧
      t = { s with
        ovl := t.ovl, mask := t.mask, r0 := BitVec.ofNat 32 off, r1 := BitVec.ofNat 32 e.elemLen } ∧
      SameMemory s t ∧
      (∀ i, t.masked i = true ↔ (off ≤ i ∧ i < off + e.elemLen) ∨ s.masked i = true) ∧
      (∀ j x, v[j]? = some x → t.ovlByte (off + j) = x) ∧
      ∀ i, ¬(off ≤ i ∧ i < off + e.elemLen) → t.ovlByte i = s.ovlByte i

/-- PAT_OVERLAY completes: the output at A2 is the staged byte where MASK is 1 and the open buffer's byte elsewhere, R0 its
length, R1 the number of masked offsets, and nothing else has changed, MASK and OVL included (43_pattern R183). -/
def Obligations.PatOverlayCompletes : Prop :=
  ∀ (s : State) (out : List Byte), s.flag .patOpen = true → out.length = s.patSize.toNat →
    (∀ i, i < out.length →
      out[i]? = if s.masked i then some (s.ovlByte i) else s.peek (s.patBase.toNat + i)) →
    out.length ≤ s.a4.toNat → Fits s s.a2.toNat out.length →
    (s.a2 = s.patBase ∨ Apart s.patBase.toNat out.length s.a2.toNat out.length) →
    ∃ t, exec .patOverlay s = .next t ∧
      t = { s with
        mem := t.mem, r0 := s.patSize,
        r1 := BitVec.ofNat 32 (((List.range out.length).filter s.masked).length) } ∧
      StoredAt s t s.a2.toNat out

/-- The overlay law: a PAT_OVERLAY that completes leaves at A2 a buffer of the open buffer's length that equals it at every offset
not staged, at every byte of a VALID PRESERVE entry, and in the 16 magic bytes. It holds of the command in every state whose open
table is valid and whose MASK is disciplined, which dispatch keeps, and so of every step that performs it from a state that meets
the invariants (43_pattern R184). -/
def Obligations.OverlayKeepsPreservedBytes : Prop :=
  let keeps (s t : State) : Prop :=
    t.r0 = s.patSize ∧
    ∀ i, i < s.patSize.toNat →
      (s.masked i = false ∨ i < 16 ∨
        (∃ k : Fin 32, ((s.bank s.variant)[k]).valid = true ∧ ((s.bank s.variant)[k]).cls = .preserve ∧
          ((s.bank s.variant)[k]).start ≤ i ∧
          i < ((s.bank s.variant)[k]).start + ((s.bank s.variant)[k]).elemLen * ((s.bank s.variant)[k]).count)) →
      s.masked i = false ∧ t.peek (s.a2.toNat + i) = s.peek (s.patBase.toNat + i)
  (∀ s t : State, OpenPatternValid s → StageDisciplined s → exec .patOverlay s = .next t → t.flag .err = false →
    keeps s t) ∧
  ∀ (s t : State) (w : Word), Invariant s → s.nextCommand = some w → decode w = .ok .patOverlay → step s = .next t →
    t.flag .err = false → keeps s t

/-- Where the field commands fault on the field itself: NOT_READY with no open pattern, BAD_FIELD for an invalid entry, an index
out of range or a type that is not U16BE, UNSAFE_FIELD_WRITE for a PRESERVE field and for a PROVISIONAL one while PROV_EN is 0,
and BOUNDS for the value range of a field that PAT_WRITE_SAFE may write, SAFE or PROVISIONAL with PROV_EN = 1 (43_pattern R174, R177, R179, R181, R182, R183). -/
def Obligations.PatternFieldFaults : Prop :=
  ∀ (s : State) (fid : BitVec 5),
    let e := (if s.flag .patVariant then s.fdt1 else s.fdt0)[fid.toFin]
    (s.flag .patOpen = false →
      exec (.patGet fid) s = .next (s.raiseFault .notReady 0) ∧
      exec (.patSectionEnabled fid) s = .next (s.raiseFault .notReady 0) ∧
      exec (.patWriteSafe fid) s = .next (s.raiseFault .notReady 0) ∧
      exec .patOverlay s = .next (s.raiseFault .notReady 0)) ∧
    (s.flag .patOpen = true →
      (e.valid = false →
        exec (.patGet fid) s = .next (s.raiseFault .badField fid.toNat) ∧
        exec (.patSectionEnabled fid) s = .next (s.raiseFault .badField fid.toNat) ∧
        exec (.patWriteSafe fid) s = .next (s.raiseFault .badField fid.toNat)) ∧
      (e.valid = true → e.typ ≠ .u16be →
        exec (.patSectionEnabled fid) s = .next (s.raiseFault .badField (fid.toNat + 512))) ∧
      (e.valid = true → e.count ≤ s.a3.toNat →
        exec (.patGet fid) s = .next (s.raiseFault .badField (fid.toNat + 256)) ∧
        (e.typ = .u16be → exec (.patSectionEnabled fid) s = .next (s.raiseFault .badField (fid.toNat + 256))) ∧
        exec (.patWriteSafe fid) s = .next (s.raiseFault .badField (fid.toNat + 256))) ∧
      (e.valid = true → s.a3.toNat < e.count →
        (e.cls = .preserve → exec (.patWriteSafe fid) s = .next (s.raiseFault .unsafeFieldWrite 0)) ∧
        (e.cls = .provisional → s.ctrl.getLsbD 2 = false →
          exec (.patWriteSafe fid) s = .next (s.raiseFault .unsafeFieldWrite 1)) ∧
        ((e.cls = .safe ∨ (e.cls = .provisional ∧ s.ctrl.getLsbD 2 = true)) → ¬Fits s s.a0.toNat e.elemLen →
          exec (.patWriteSafe fid) s = .next (s.raiseFault .bounds s.a0.toNat))))

/-- Where PAT_GET of a BYTES field and PAT_OVERLAY fault on their destination: CAPACITY, BOUNDS, OVERLAP, in that order, with
the exact in-place overlay allowed (43_pattern R177, R183, 70_reset R249). -/
def Obligations.PatternDestinationFaults : Prop :=
  ∀ s : State, s.flag .patOpen = true →
    (∀ fid : BitVec 5,
      let e := (if s.flag .patVariant then s.fdt1 else s.fdt0)[fid.toFin]
      let p := s.patBase.toNat + (e.start + s.a3.toNat * e.elemLen)
      e.valid = true → e.typ = .bytes → s.a3.toNat < e.count →
      (s.a4.toNat < e.elemLen → exec (.patGet fid) s = .next (s.raiseFault .capacity e.elemLen)) ∧
      (e.elemLen ≤ s.a4.toNat → ¬Fits s s.a2.toNat e.elemLen →
        exec (.patGet fid) s = .next (s.raiseFault .bounds s.a2.toNat)) ∧
      (e.elemLen ≤ s.a4.toNat → Fits s s.a2.toNat e.elemLen → ¬Apart p e.elemLen s.a2.toNat e.elemLen →
        exec (.patGet fid) s = .next (s.raiseFault .overlap s.a2.toNat))) ∧
    (s.a4.toNat < s.patSize.toNat → exec .patOverlay s = .next (s.raiseFault .capacity s.patSize.toNat)) ∧
    (s.patSize.toNat ≤ s.a4.toNat → ¬Fits s s.a2.toNat s.patSize.toNat →
      exec .patOverlay s = .next (s.raiseFault .bounds s.a2.toNat)) ∧
    (s.patSize.toNat ≤ s.a4.toNat → Fits s s.a2.toNat s.patSize.toNat → s.a2 ≠ s.patBase →
      ¬Apart s.patBase.toNat s.patSize.toNat s.a2.toNat s.patSize.toNat →
      exec .patOverlay s = .next (s.raiseFault .overlap s.a2.toNat))

/-- PAT_CLEAR_STAGE clears MASK, PAT_CLOSE clears MASK and STATUS.PAT_OPEN, and neither changes anything else, OVL included
(43_pattern R185, R186). -/
def Obligations.StageAndPatternClear : Prop :=
  ∀ s : State, exec .patClearStage s = .next { s with mask := [] } ∧
    exec .patClose s = .next { s with mask := [], status := s.status &&& ~~~0x00010000#32 }

/-- NOP changes nothing; its step clears STATUS.ERR and ERR and keeps ERR_INFO and ERR_STICKY (44_control R200). -/
def Obligations.NopOnlyClearsErr : Prop :=
  (∀ s : State, exec .nop s = .next s) ∧
  ∀ s : State, s.nextCommand = some 0x00000000#32 → s.flag .busy = false →
    step s = .next { s with cmd := 0#32, err := 0#32, status := s.status &&& ~~~0x00000002#32, pc := s.pc + 1 }
end

