-- ==== Sys2Proof/Laws/State.lean ====
section
/-! SUPPORT. One lemma per field per update of State: what the field is after the update. -/

namespace Sys2Proof.Machine

/-! ### setFlag -/

@[simp] theorem State.setFlag_params (s : State) (b : StatusBit) (v : Bool) : (s.setFlag b v).params = s.params := rfl
@[simp] theorem State.setFlag_cmd (s : State) (b : StatusBit) (v : Bool) : (s.setFlag b v).cmd = s.cmd := rfl
@[simp] theorem State.setFlag_status (s : State) (b : StatusBit) (v : Bool) : (s.setFlag b v).status = putBit s.status b.index v := rfl
@[simp] theorem State.setFlag_err (s : State) (b : StatusBit) (v : Bool) : (s.setFlag b v).err = s.err := rfl
@[simp] theorem State.setFlag_errInfo (s : State) (b : StatusBit) (v : Bool) : (s.setFlag b v).errInfo = s.errInfo := rfl
@[simp] theorem State.setFlag_ctrl (s : State) (b : StatusBit) (v : Bool) : (s.setFlag b v).ctrl = s.ctrl := rfl
@[simp] theorem State.setFlag_a0 (s : State) (b : StatusBit) (v : Bool) : (s.setFlag b v).a0 = s.a0 := rfl
@[simp] theorem State.setFlag_a1 (s : State) (b : StatusBit) (v : Bool) : (s.setFlag b v).a1 = s.a1 := rfl
@[simp] theorem State.setFlag_a2 (s : State) (b : StatusBit) (v : Bool) : (s.setFlag b v).a2 = s.a2 := rfl
@[simp] theorem State.setFlag_a3 (s : State) (b : StatusBit) (v : Bool) : (s.setFlag b v).a3 = s.a3 := rfl
@[simp] theorem State.setFlag_a4 (s : State) (b : StatusBit) (v : Bool) : (s.setFlag b v).a4 = s.a4 := rfl
@[simp] theorem State.setFlag_r0 (s : State) (b : StatusBit) (v : Bool) : (s.setFlag b v).r0 = s.r0 := rfl
@[simp] theorem State.setFlag_r1 (s : State) (b : StatusBit) (v : Bool) : (s.setFlag b v).r1 = s.r1 := rfl
@[simp] theorem State.setFlag_r2 (s : State) (b : StatusBit) (v : Bool) : (s.setFlag b v).r2 = s.r2 := rfl
@[simp] theorem State.setFlag_r3 (s : State) (b : StatusBit) (v : Bool) : (s.setFlag b v).r3 = s.r3 := rfl
@[simp] theorem State.setFlag_frameCur (s : State) (b : StatusBit) (v : Bool) : (s.setFlag b v).frameCur = s.frameCur := rfl
@[simp] theorem State.setFlag_frameEnd (s : State) (b : StatusBit) (v : Bool) : (s.setFlag b v).frameEnd = s.frameEnd := rfl
@[simp] theorem State.setFlag_patBase (s : State) (b : StatusBit) (v : Bool) : (s.setFlag b v).patBase = s.patBase := rfl
@[simp] theorem State.setFlag_patSize (s : State) (b : StatusBit) (v : Bool) : (s.setFlag b v).patSize = s.patSize := rfl
@[simp] theorem State.setFlag_fdt0 (s : State) (b : StatusBit) (v : Bool) : (s.setFlag b v).fdt0 = s.fdt0 := rfl
@[simp] theorem State.setFlag_fdt1 (s : State) (b : StatusBit) (v : Bool) : (s.setFlag b v).fdt1 = s.fdt1 := rfl
@[simp] theorem State.setFlag_ovl (s : State) (b : StatusBit) (v : Bool) : (s.setFlag b v).ovl = s.ovl := rfl
@[simp] theorem State.setFlag_mask (s : State) (b : StatusBit) (v : Bool) : (s.setFlag b v).mask = s.mask := rfl
@[simp] theorem State.setFlag_mem (s : State) (b : StatusBit) (v : Bool) : (s.setFlag b v).mem = s.mem := rfl
@[simp] theorem State.setFlag_script (s : State) (b : StatusBit) (v : Bool) : (s.setFlag b v).script = s.script := rfl
@[simp] theorem State.setFlag_pc (s : State) (b : StatusBit) (v : Bool) : (s.setFlag b v).pc = s.pc := rfl
@[simp] theorem State.setFlag_rdata (s : State) (b : StatusBit) (v : Bool) : (s.setFlag b v).rdata = s.rdata := rfl

/-! ### warnIf -/

@[simp] theorem State.warnIf_params (s : State) (c : Bool) (b : StatusBit) : (s.warnIf c b).params = s.params := by cases c <;> rfl
@[simp] theorem State.warnIf_cmd (s : State) (c : Bool) (b : StatusBit) : (s.warnIf c b).cmd = s.cmd := by cases c <;> rfl
@[simp] theorem State.warnIf_status (s : State) (c : Bool) (b : StatusBit) : (s.warnIf c b).status = if c then putBit s.status b.index true else s.status := by cases c <;> rfl
@[simp] theorem State.warnIf_err (s : State) (c : Bool) (b : StatusBit) : (s.warnIf c b).err = s.err := by cases c <;> rfl
@[simp] theorem State.warnIf_errInfo (s : State) (c : Bool) (b : StatusBit) : (s.warnIf c b).errInfo = s.errInfo := by cases c <;> rfl
@[simp] theorem State.warnIf_ctrl (s : State) (c : Bool) (b : StatusBit) : (s.warnIf c b).ctrl = s.ctrl := by cases c <;> rfl
@[simp] theorem State.warnIf_a0 (s : State) (c : Bool) (b : StatusBit) : (s.warnIf c b).a0 = s.a0 := by cases c <;> rfl
@[simp] theorem State.warnIf_a1 (s : State) (c : Bool) (b : StatusBit) : (s.warnIf c b).a1 = s.a1 := by cases c <;> rfl
@[simp] theorem State.warnIf_a2 (s : State) (c : Bool) (b : StatusBit) : (s.warnIf c b).a2 = s.a2 := by cases c <;> rfl
@[simp] theorem State.warnIf_a3 (s : State) (c : Bool) (b : StatusBit) : (s.warnIf c b).a3 = s.a3 := by cases c <;> rfl
@[simp] theorem State.warnIf_a4 (s : State) (c : Bool) (b : StatusBit) : (s.warnIf c b).a4 = s.a4 := by cases c <;> rfl
@[simp] theorem State.warnIf_r0 (s : State) (c : Bool) (b : StatusBit) : (s.warnIf c b).r0 = s.r0 := by cases c <;> rfl
@[simp] theorem State.warnIf_r1 (s : State) (c : Bool) (b : StatusBit) : (s.warnIf c b).r1 = s.r1 := by cases c <;> rfl
@[simp] theorem State.warnIf_r2 (s : State) (c : Bool) (b : StatusBit) : (s.warnIf c b).r2 = s.r2 := by cases c <;> rfl
@[simp] theorem State.warnIf_r3 (s : State) (c : Bool) (b : StatusBit) : (s.warnIf c b).r3 = s.r3 := by cases c <;> rfl
@[simp] theorem State.warnIf_frameCur (s : State) (c : Bool) (b : StatusBit) : (s.warnIf c b).frameCur = s.frameCur := by cases c <;> rfl
@[simp] theorem State.warnIf_frameEnd (s : State) (c : Bool) (b : StatusBit) : (s.warnIf c b).frameEnd = s.frameEnd := by cases c <;> rfl
@[simp] theorem State.warnIf_patBase (s : State) (c : Bool) (b : StatusBit) : (s.warnIf c b).patBase = s.patBase := by cases c <;> rfl
@[simp] theorem State.warnIf_patSize (s : State) (c : Bool) (b : StatusBit) : (s.warnIf c b).patSize = s.patSize := by cases c <;> rfl
@[simp] theorem State.warnIf_fdt0 (s : State) (c : Bool) (b : StatusBit) : (s.warnIf c b).fdt0 = s.fdt0 := by cases c <;> rfl
@[simp] theorem State.warnIf_fdt1 (s : State) (c : Bool) (b : StatusBit) : (s.warnIf c b).fdt1 = s.fdt1 := by cases c <;> rfl
@[simp] theorem State.warnIf_ovl (s : State) (c : Bool) (b : StatusBit) : (s.warnIf c b).ovl = s.ovl := by cases c <;> rfl
@[simp] theorem State.warnIf_mask (s : State) (c : Bool) (b : StatusBit) : (s.warnIf c b).mask = s.mask := by cases c <;> rfl
@[simp] theorem State.warnIf_mem (s : State) (c : Bool) (b : StatusBit) : (s.warnIf c b).mem = s.mem := by cases c <;> rfl
@[simp] theorem State.warnIf_script (s : State) (c : Bool) (b : StatusBit) : (s.warnIf c b).script = s.script := by cases c <;> rfl
@[simp] theorem State.warnIf_pc (s : State) (c : Bool) (b : StatusBit) : (s.warnIf c b).pc = s.pc := by cases c <;> rfl
@[simp] theorem State.warnIf_rdata (s : State) (c : Bool) (b : StatusBit) : (s.warnIf c b).rdata = s.rdata := by cases c <;> rfl

/-! ### clearW1C -/

@[simp] theorem State.clearW1C_params (s : State) (v : Word) : (s.clearW1C v).params = s.params := rfl
@[simp] theorem State.clearW1C_cmd (s : State) (v : Word) : (s.clearW1C v).cmd = s.cmd := rfl
@[simp] theorem State.clearW1C_status (s : State) (v : Word) : (s.clearW1C v).status = s.status &&& ~~~(v &&& w1cMask) := rfl
@[simp] theorem State.clearW1C_err (s : State) (v : Word) : (s.clearW1C v).err = s.err := rfl
@[simp] theorem State.clearW1C_errInfo (s : State) (v : Word) : (s.clearW1C v).errInfo = s.errInfo := rfl
@[simp] theorem State.clearW1C_ctrl (s : State) (v : Word) : (s.clearW1C v).ctrl = s.ctrl := rfl
@[simp] theorem State.clearW1C_a0 (s : State) (v : Word) : (s.clearW1C v).a0 = s.a0 := rfl
@[simp] theorem State.clearW1C_a1 (s : State) (v : Word) : (s.clearW1C v).a1 = s.a1 := rfl
@[simp] theorem State.clearW1C_a2 (s : State) (v : Word) : (s.clearW1C v).a2 = s.a2 := rfl
@[simp] theorem State.clearW1C_a3 (s : State) (v : Word) : (s.clearW1C v).a3 = s.a3 := rfl
@[simp] theorem State.clearW1C_a4 (s : State) (v : Word) : (s.clearW1C v).a4 = s.a4 := rfl
@[simp] theorem State.clearW1C_r0 (s : State) (v : Word) : (s.clearW1C v).r0 = s.r0 := rfl
@[simp] theorem State.clearW1C_r1 (s : State) (v : Word) : (s.clearW1C v).r1 = s.r1 := rfl
@[simp] theorem State.clearW1C_r2 (s : State) (v : Word) : (s.clearW1C v).r2 = s.r2 := rfl
@[simp] theorem State.clearW1C_r3 (s : State) (v : Word) : (s.clearW1C v).r3 = s.r3 := rfl
@[simp] theorem State.clearW1C_frameCur (s : State) (v : Word) : (s.clearW1C v).frameCur = s.frameCur := rfl
@[simp] theorem State.clearW1C_frameEnd (s : State) (v : Word) : (s.clearW1C v).frameEnd = s.frameEnd := rfl
@[simp] theorem State.clearW1C_patBase (s : State) (v : Word) : (s.clearW1C v).patBase = s.patBase := rfl
@[simp] theorem State.clearW1C_patSize (s : State) (v : Word) : (s.clearW1C v).patSize = s.patSize := rfl
@[simp] theorem State.clearW1C_fdt0 (s : State) (v : Word) : (s.clearW1C v).fdt0 = s.fdt0 := rfl
@[simp] theorem State.clearW1C_fdt1 (s : State) (v : Word) : (s.clearW1C v).fdt1 = s.fdt1 := rfl
@[simp] theorem State.clearW1C_ovl (s : State) (v : Word) : (s.clearW1C v).ovl = s.ovl := rfl
@[simp] theorem State.clearW1C_mask (s : State) (v : Word) : (s.clearW1C v).mask = s.mask := rfl
@[simp] theorem State.clearW1C_mem (s : State) (v : Word) : (s.clearW1C v).mem = s.mem := rfl
@[simp] theorem State.clearW1C_script (s : State) (v : Word) : (s.clearW1C v).script = s.script := rfl
@[simp] theorem State.clearW1C_pc (s : State) (v : Word) : (s.clearW1C v).pc = s.pc := rfl
@[simp] theorem State.clearW1C_rdata (s : State) (v : Word) : (s.clearW1C v).rdata = s.rdata := rfl

/-! ### raiseFault -/

@[simp] theorem State.raiseFault_params (s : State) (c : FaultCode) (n : Nat) : (s.raiseFault c n).params = s.params := rfl
@[simp] theorem State.raiseFault_cmd (s : State) (c : FaultCode) (n : Nat) : (s.raiseFault c n).cmd = s.cmd := rfl
@[simp] theorem State.raiseFault_status (s : State) (c : FaultCode) (n : Nat) : (s.raiseFault c n).status = putBit (putBit s.status 1 true) 2 true := rfl
@[simp] theorem State.raiseFault_err (s : State) (c : FaultCode) (n : Nat) : (s.raiseFault c n).err = 0#16 ++ s.cmd.extractLsb' 0 8 ++ c.code := rfl
@[simp] theorem State.raiseFault_errInfo (s : State) (c : FaultCode) (n : Nat) : (s.raiseFault c n).errInfo = BitVec.ofNat 32 n := rfl
@[simp] theorem State.raiseFault_ctrl (s : State) (c : FaultCode) (n : Nat) : (s.raiseFault c n).ctrl = s.ctrl := rfl
@[simp] theorem State.raiseFault_a0 (s : State) (c : FaultCode) (n : Nat) : (s.raiseFault c n).a0 = s.a0 := rfl
@[simp] theorem State.raiseFault_a1 (s : State) (c : FaultCode) (n : Nat) : (s.raiseFault c n).a1 = s.a1 := rfl
@[simp] theorem State.raiseFault_a2 (s : State) (c : FaultCode) (n : Nat) : (s.raiseFault c n).a2 = s.a2 := rfl
@[simp] theorem State.raiseFault_a3 (s : State) (c : FaultCode) (n : Nat) : (s.raiseFault c n).a3 = s.a3 := rfl
@[simp] theorem State.raiseFault_a4 (s : State) (c : FaultCode) (n : Nat) : (s.raiseFault c n).a4 = s.a4 := rfl
@[simp] theorem State.raiseFault_r0 (s : State) (c : FaultCode) (n : Nat) : (s.raiseFault c n).r0 = s.r0 := rfl
@[simp] theorem State.raiseFault_r1 (s : State) (c : FaultCode) (n : Nat) : (s.raiseFault c n).r1 = s.r1 := rfl
@[simp] theorem State.raiseFault_r2 (s : State) (c : FaultCode) (n : Nat) : (s.raiseFault c n).r2 = s.r2 := rfl
@[simp] theorem State.raiseFault_r3 (s : State) (c : FaultCode) (n : Nat) : (s.raiseFault c n).r3 = s.r3 := rfl
@[simp] theorem State.raiseFault_frameCur (s : State) (c : FaultCode) (n : Nat) : (s.raiseFault c n).frameCur = s.frameCur := rfl
@[simp] theorem State.raiseFault_frameEnd (s : State) (c : FaultCode) (n : Nat) : (s.raiseFault c n).frameEnd = s.frameEnd := rfl
@[simp] theorem State.raiseFault_patBase (s : State) (c : FaultCode) (n : Nat) : (s.raiseFault c n).patBase = s.patBase := rfl
@[simp] theorem State.raiseFault_patSize (s : State) (c : FaultCode) (n : Nat) : (s.raiseFault c n).patSize = s.patSize := rfl
@[simp] theorem State.raiseFault_fdt0 (s : State) (c : FaultCode) (n : Nat) : (s.raiseFault c n).fdt0 = s.fdt0 := rfl
@[simp] theorem State.raiseFault_fdt1 (s : State) (c : FaultCode) (n : Nat) : (s.raiseFault c n).fdt1 = s.fdt1 := rfl
@[simp] theorem State.raiseFault_ovl (s : State) (c : FaultCode) (n : Nat) : (s.raiseFault c n).ovl = s.ovl := rfl
@[simp] theorem State.raiseFault_mask (s : State) (c : FaultCode) (n : Nat) : (s.raiseFault c n).mask = s.mask := rfl
@[simp] theorem State.raiseFault_mem (s : State) (c : FaultCode) (n : Nat) : (s.raiseFault c n).mem = s.mem := rfl
@[simp] theorem State.raiseFault_script (s : State) (c : FaultCode) (n : Nat) : (s.raiseFault c n).script = s.script := rfl
@[simp] theorem State.raiseFault_pc (s : State) (c : FaultCode) (n : Nat) : (s.raiseFault c n).pc = s.pc := rfl
@[simp] theorem State.raiseFault_rdata (s : State) (c : FaultCode) (n : Nat) : (s.raiseFault c n).rdata = s.rdata := rfl

/-! ### beginCommand -/

@[simp] theorem State.beginCommand_params (s : State) (w : Word) : (s.beginCommand w).params = s.params := rfl
@[simp] theorem State.beginCommand_cmd (s : State) (w : Word) : (s.beginCommand w).cmd = w := rfl
@[simp] theorem State.beginCommand_status (s : State) (w : Word) : (s.beginCommand w).status = putBit (putBit s.status 1 false) 0 true := rfl
@[simp] theorem State.beginCommand_err (s : State) (w : Word) : (s.beginCommand w).err = 0#32 := rfl
@[simp] theorem State.beginCommand_errInfo (s : State) (w : Word) : (s.beginCommand w).errInfo = s.errInfo := rfl
@[simp] theorem State.beginCommand_ctrl (s : State) (w : Word) : (s.beginCommand w).ctrl = s.ctrl := rfl
@[simp] theorem State.beginCommand_a0 (s : State) (w : Word) : (s.beginCommand w).a0 = s.a0 := rfl
@[simp] theorem State.beginCommand_a1 (s : State) (w : Word) : (s.beginCommand w).a1 = s.a1 := rfl
@[simp] theorem State.beginCommand_a2 (s : State) (w : Word) : (s.beginCommand w).a2 = s.a2 := rfl
@[simp] theorem State.beginCommand_a3 (s : State) (w : Word) : (s.beginCommand w).a3 = s.a3 := rfl
@[simp] theorem State.beginCommand_a4 (s : State) (w : Word) : (s.beginCommand w).a4 = s.a4 := rfl
@[simp] theorem State.beginCommand_r0 (s : State) (w : Word) : (s.beginCommand w).r0 = s.r0 := rfl
@[simp] theorem State.beginCommand_r1 (s : State) (w : Word) : (s.beginCommand w).r1 = s.r1 := rfl
@[simp] theorem State.beginCommand_r2 (s : State) (w : Word) : (s.beginCommand w).r2 = s.r2 := rfl
@[simp] theorem State.beginCommand_r3 (s : State) (w : Word) : (s.beginCommand w).r3 = s.r3 := rfl
@[simp] theorem State.beginCommand_frameCur (s : State) (w : Word) : (s.beginCommand w).frameCur = s.frameCur := rfl
@[simp] theorem State.beginCommand_frameEnd (s : State) (w : Word) : (s.beginCommand w).frameEnd = s.frameEnd := rfl
@[simp] theorem State.beginCommand_patBase (s : State) (w : Word) : (s.beginCommand w).patBase = s.patBase := rfl
@[simp] theorem State.beginCommand_patSize (s : State) (w : Word) : (s.beginCommand w).patSize = s.patSize := rfl
@[simp] theorem State.beginCommand_fdt0 (s : State) (w : Word) : (s.beginCommand w).fdt0 = s.fdt0 := rfl
@[simp] theorem State.beginCommand_fdt1 (s : State) (w : Word) : (s.beginCommand w).fdt1 = s.fdt1 := rfl
@[simp] theorem State.beginCommand_ovl (s : State) (w : Word) : (s.beginCommand w).ovl = s.ovl := rfl
@[simp] theorem State.beginCommand_mask (s : State) (w : Word) : (s.beginCommand w).mask = s.mask := rfl
@[simp] theorem State.beginCommand_mem (s : State) (w : Word) : (s.beginCommand w).mem = s.mem := rfl
@[simp] theorem State.beginCommand_script (s : State) (w : Word) : (s.beginCommand w).script = s.script := rfl
@[simp] theorem State.beginCommand_pc (s : State) (w : Word) : (s.beginCommand w).pc = s.pc := rfl
@[simp] theorem State.beginCommand_rdata (s : State) (w : Word) : (s.beginCommand w).rdata = s.rdata := rfl

/-! ### endCommand -/

@[simp] theorem State.endCommand_params (s : State) : (s.endCommand).params = s.params := rfl
@[simp] theorem State.endCommand_cmd (s : State) : (s.endCommand).cmd = s.cmd := rfl
@[simp] theorem State.endCommand_status (s : State) : (s.endCommand).status = putBit s.status 0 false := rfl
@[simp] theorem State.endCommand_err (s : State) : (s.endCommand).err = s.err := rfl
@[simp] theorem State.endCommand_errInfo (s : State) : (s.endCommand).errInfo = s.errInfo := rfl
@[simp] theorem State.endCommand_ctrl (s : State) : (s.endCommand).ctrl = s.ctrl := rfl
@[simp] theorem State.endCommand_a0 (s : State) : (s.endCommand).a0 = s.a0 := rfl
@[simp] theorem State.endCommand_a1 (s : State) : (s.endCommand).a1 = s.a1 := rfl
@[simp] theorem State.endCommand_a2 (s : State) : (s.endCommand).a2 = s.a2 := rfl
@[simp] theorem State.endCommand_a3 (s : State) : (s.endCommand).a3 = s.a3 := rfl
@[simp] theorem State.endCommand_a4 (s : State) : (s.endCommand).a4 = s.a4 := rfl
@[simp] theorem State.endCommand_r0 (s : State) : (s.endCommand).r0 = s.r0 := rfl
@[simp] theorem State.endCommand_r1 (s : State) : (s.endCommand).r1 = s.r1 := rfl
@[simp] theorem State.endCommand_r2 (s : State) : (s.endCommand).r2 = s.r2 := rfl
@[simp] theorem State.endCommand_r3 (s : State) : (s.endCommand).r3 = s.r3 := rfl
@[simp] theorem State.endCommand_frameCur (s : State) : (s.endCommand).frameCur = s.frameCur := rfl
@[simp] theorem State.endCommand_frameEnd (s : State) : (s.endCommand).frameEnd = s.frameEnd := rfl
@[simp] theorem State.endCommand_patBase (s : State) : (s.endCommand).patBase = s.patBase := rfl
@[simp] theorem State.endCommand_patSize (s : State) : (s.endCommand).patSize = s.patSize := rfl
@[simp] theorem State.endCommand_fdt0 (s : State) : (s.endCommand).fdt0 = s.fdt0 := rfl
@[simp] theorem State.endCommand_fdt1 (s : State) : (s.endCommand).fdt1 = s.fdt1 := rfl
@[simp] theorem State.endCommand_ovl (s : State) : (s.endCommand).ovl = s.ovl := rfl
@[simp] theorem State.endCommand_mask (s : State) : (s.endCommand).mask = s.mask := rfl
@[simp] theorem State.endCommand_mem (s : State) : (s.endCommand).mem = s.mem := rfl
@[simp] theorem State.endCommand_script (s : State) : (s.endCommand).script = s.script := rfl
@[simp] theorem State.endCommand_pc (s : State) : (s.endCommand).pc = s.pc := rfl
@[simp] theorem State.endCommand_rdata (s : State) : (s.endCommand).rdata = s.rdata := rfl

/-! ### storeBytes -/

@[simp] theorem State.storeBytes_params (s : State) (a : Nat) (vs : List Byte) : (s.storeBytes a vs).params = s.params := rfl
@[simp] theorem State.storeBytes_cmd (s : State) (a : Nat) (vs : List Byte) : (s.storeBytes a vs).cmd = s.cmd := rfl
@[simp] theorem State.storeBytes_status (s : State) (a : Nat) (vs : List Byte) : (s.storeBytes a vs).status = s.status := rfl
@[simp] theorem State.storeBytes_err (s : State) (a : Nat) (vs : List Byte) : (s.storeBytes a vs).err = s.err := rfl
@[simp] theorem State.storeBytes_errInfo (s : State) (a : Nat) (vs : List Byte) : (s.storeBytes a vs).errInfo = s.errInfo := rfl
@[simp] theorem State.storeBytes_ctrl (s : State) (a : Nat) (vs : List Byte) : (s.storeBytes a vs).ctrl = s.ctrl := rfl
@[simp] theorem State.storeBytes_a0 (s : State) (a : Nat) (vs : List Byte) : (s.storeBytes a vs).a0 = s.a0 := rfl
@[simp] theorem State.storeBytes_a1 (s : State) (a : Nat) (vs : List Byte) : (s.storeBytes a vs).a1 = s.a1 := rfl
@[simp] theorem State.storeBytes_a2 (s : State) (a : Nat) (vs : List Byte) : (s.storeBytes a vs).a2 = s.a2 := rfl
@[simp] theorem State.storeBytes_a3 (s : State) (a : Nat) (vs : List Byte) : (s.storeBytes a vs).a3 = s.a3 := rfl
@[simp] theorem State.storeBytes_a4 (s : State) (a : Nat) (vs : List Byte) : (s.storeBytes a vs).a4 = s.a4 := rfl
@[simp] theorem State.storeBytes_r0 (s : State) (a : Nat) (vs : List Byte) : (s.storeBytes a vs).r0 = s.r0 := rfl
@[simp] theorem State.storeBytes_r1 (s : State) (a : Nat) (vs : List Byte) : (s.storeBytes a vs).r1 = s.r1 := rfl
@[simp] theorem State.storeBytes_r2 (s : State) (a : Nat) (vs : List Byte) : (s.storeBytes a vs).r2 = s.r2 := rfl
@[simp] theorem State.storeBytes_r3 (s : State) (a : Nat) (vs : List Byte) : (s.storeBytes a vs).r3 = s.r3 := rfl
@[simp] theorem State.storeBytes_frameCur (s : State) (a : Nat) (vs : List Byte) : (s.storeBytes a vs).frameCur = s.frameCur := rfl
@[simp] theorem State.storeBytes_frameEnd (s : State) (a : Nat) (vs : List Byte) : (s.storeBytes a vs).frameEnd = s.frameEnd := rfl
@[simp] theorem State.storeBytes_patBase (s : State) (a : Nat) (vs : List Byte) : (s.storeBytes a vs).patBase = s.patBase := rfl
@[simp] theorem State.storeBytes_patSize (s : State) (a : Nat) (vs : List Byte) : (s.storeBytes a vs).patSize = s.patSize := rfl
@[simp] theorem State.storeBytes_fdt0 (s : State) (a : Nat) (vs : List Byte) : (s.storeBytes a vs).fdt0 = s.fdt0 := rfl
@[simp] theorem State.storeBytes_fdt1 (s : State) (a : Nat) (vs : List Byte) : (s.storeBytes a vs).fdt1 = s.fdt1 := rfl
@[simp] theorem State.storeBytes_ovl (s : State) (a : Nat) (vs : List Byte) : (s.storeBytes a vs).ovl = s.ovl := rfl
@[simp] theorem State.storeBytes_mask (s : State) (a : Nat) (vs : List Byte) : (s.storeBytes a vs).mask = s.mask := rfl
@[simp] theorem State.storeBytes_mem (s : State) (a : Nat) (vs : List Byte) : (s.storeBytes a vs).mem = cellWriteAll s.mem a vs := rfl
@[simp] theorem State.storeBytes_script (s : State) (a : Nat) (vs : List Byte) : (s.storeBytes a vs).script = s.script := rfl
@[simp] theorem State.storeBytes_pc (s : State) (a : Nat) (vs : List Byte) : (s.storeBytes a vs).pc = s.pc := rfl
@[simp] theorem State.storeBytes_rdata (s : State) (a : Nat) (vs : List Byte) : (s.storeBytes a vs).rdata = s.rdata := rfl

/-! ### setR0 -/

@[simp] theorem State.setR0_params (s : State) (n : Nat) : (s.setR0 n).params = s.params := rfl
@[simp] theorem State.setR0_cmd (s : State) (n : Nat) : (s.setR0 n).cmd = s.cmd := rfl
@[simp] theorem State.setR0_status (s : State) (n : Nat) : (s.setR0 n).status = s.status := rfl
@[simp] theorem State.setR0_err (s : State) (n : Nat) : (s.setR0 n).err = s.err := rfl
@[simp] theorem State.setR0_errInfo (s : State) (n : Nat) : (s.setR0 n).errInfo = s.errInfo := rfl
@[simp] theorem State.setR0_ctrl (s : State) (n : Nat) : (s.setR0 n).ctrl = s.ctrl := rfl
@[simp] theorem State.setR0_a0 (s : State) (n : Nat) : (s.setR0 n).a0 = s.a0 := rfl
@[simp] theorem State.setR0_a1 (s : State) (n : Nat) : (s.setR0 n).a1 = s.a1 := rfl
@[simp] theorem State.setR0_a2 (s : State) (n : Nat) : (s.setR0 n).a2 = s.a2 := rfl
@[simp] theorem State.setR0_a3 (s : State) (n : Nat) : (s.setR0 n).a3 = s.a3 := rfl
@[simp] theorem State.setR0_a4 (s : State) (n : Nat) : (s.setR0 n).a4 = s.a4 := rfl
@[simp] theorem State.setR0_r0 (s : State) (n : Nat) : (s.setR0 n).r0 = BitVec.ofNat 32 n := rfl
@[simp] theorem State.setR0_r1 (s : State) (n : Nat) : (s.setR0 n).r1 = s.r1 := rfl
@[simp] theorem State.setR0_r2 (s : State) (n : Nat) : (s.setR0 n).r2 = s.r2 := rfl
@[simp] theorem State.setR0_r3 (s : State) (n : Nat) : (s.setR0 n).r3 = s.r3 := rfl
@[simp] theorem State.setR0_frameCur (s : State) (n : Nat) : (s.setR0 n).frameCur = s.frameCur := rfl
@[simp] theorem State.setR0_frameEnd (s : State) (n : Nat) : (s.setR0 n).frameEnd = s.frameEnd := rfl
@[simp] theorem State.setR0_patBase (s : State) (n : Nat) : (s.setR0 n).patBase = s.patBase := rfl
@[simp] theorem State.setR0_patSize (s : State) (n : Nat) : (s.setR0 n).patSize = s.patSize := rfl
@[simp] theorem State.setR0_fdt0 (s : State) (n : Nat) : (s.setR0 n).fdt0 = s.fdt0 := rfl
@[simp] theorem State.setR0_fdt1 (s : State) (n : Nat) : (s.setR0 n).fdt1 = s.fdt1 := rfl
@[simp] theorem State.setR0_ovl (s : State) (n : Nat) : (s.setR0 n).ovl = s.ovl := rfl
@[simp] theorem State.setR0_mask (s : State) (n : Nat) : (s.setR0 n).mask = s.mask := rfl
@[simp] theorem State.setR0_mem (s : State) (n : Nat) : (s.setR0 n).mem = s.mem := rfl
@[simp] theorem State.setR0_script (s : State) (n : Nat) : (s.setR0 n).script = s.script := rfl
@[simp] theorem State.setR0_pc (s : State) (n : Nat) : (s.setR0 n).pc = s.pc := rfl
@[simp] theorem State.setR0_rdata (s : State) (n : Nat) : (s.setR0 n).rdata = s.rdata := rfl

/-! ### setR1 -/

@[simp] theorem State.setR1_params (s : State) (n : Nat) : (s.setR1 n).params = s.params := rfl
@[simp] theorem State.setR1_cmd (s : State) (n : Nat) : (s.setR1 n).cmd = s.cmd := rfl
@[simp] theorem State.setR1_status (s : State) (n : Nat) : (s.setR1 n).status = s.status := rfl
@[simp] theorem State.setR1_err (s : State) (n : Nat) : (s.setR1 n).err = s.err := rfl
@[simp] theorem State.setR1_errInfo (s : State) (n : Nat) : (s.setR1 n).errInfo = s.errInfo := rfl
@[simp] theorem State.setR1_ctrl (s : State) (n : Nat) : (s.setR1 n).ctrl = s.ctrl := rfl
@[simp] theorem State.setR1_a0 (s : State) (n : Nat) : (s.setR1 n).a0 = s.a0 := rfl
@[simp] theorem State.setR1_a1 (s : State) (n : Nat) : (s.setR1 n).a1 = s.a1 := rfl
@[simp] theorem State.setR1_a2 (s : State) (n : Nat) : (s.setR1 n).a2 = s.a2 := rfl
@[simp] theorem State.setR1_a3 (s : State) (n : Nat) : (s.setR1 n).a3 = s.a3 := rfl
@[simp] theorem State.setR1_a4 (s : State) (n : Nat) : (s.setR1 n).a4 = s.a4 := rfl
@[simp] theorem State.setR1_r0 (s : State) (n : Nat) : (s.setR1 n).r0 = s.r0 := rfl
@[simp] theorem State.setR1_r1 (s : State) (n : Nat) : (s.setR1 n).r1 = BitVec.ofNat 32 n := rfl
@[simp] theorem State.setR1_r2 (s : State) (n : Nat) : (s.setR1 n).r2 = s.r2 := rfl
@[simp] theorem State.setR1_r3 (s : State) (n : Nat) : (s.setR1 n).r3 = s.r3 := rfl
@[simp] theorem State.setR1_frameCur (s : State) (n : Nat) : (s.setR1 n).frameCur = s.frameCur := rfl
@[simp] theorem State.setR1_frameEnd (s : State) (n : Nat) : (s.setR1 n).frameEnd = s.frameEnd := rfl
@[simp] theorem State.setR1_patBase (s : State) (n : Nat) : (s.setR1 n).patBase = s.patBase := rfl
@[simp] theorem State.setR1_patSize (s : State) (n : Nat) : (s.setR1 n).patSize = s.patSize := rfl
@[simp] theorem State.setR1_fdt0 (s : State) (n : Nat) : (s.setR1 n).fdt0 = s.fdt0 := rfl
@[simp] theorem State.setR1_fdt1 (s : State) (n : Nat) : (s.setR1 n).fdt1 = s.fdt1 := rfl
@[simp] theorem State.setR1_ovl (s : State) (n : Nat) : (s.setR1 n).ovl = s.ovl := rfl
@[simp] theorem State.setR1_mask (s : State) (n : Nat) : (s.setR1 n).mask = s.mask := rfl
@[simp] theorem State.setR1_mem (s : State) (n : Nat) : (s.setR1 n).mem = s.mem := rfl
@[simp] theorem State.setR1_script (s : State) (n : Nat) : (s.setR1 n).script = s.script := rfl
@[simp] theorem State.setR1_pc (s : State) (n : Nat) : (s.setR1 n).pc = s.pc := rfl
@[simp] theorem State.setR1_rdata (s : State) (n : Nat) : (s.setR1 n).rdata = s.rdata := rfl

/-! ### setR2 -/

@[simp] theorem State.setR2_params (s : State) (n : Nat) : (s.setR2 n).params = s.params := rfl
@[simp] theorem State.setR2_cmd (s : State) (n : Nat) : (s.setR2 n).cmd = s.cmd := rfl
@[simp] theorem State.setR2_status (s : State) (n : Nat) : (s.setR2 n).status = s.status := rfl
@[simp] theorem State.setR2_err (s : State) (n : Nat) : (s.setR2 n).err = s.err := rfl
@[simp] theorem State.setR2_errInfo (s : State) (n : Nat) : (s.setR2 n).errInfo = s.errInfo := rfl
@[simp] theorem State.setR2_ctrl (s : State) (n : Nat) : (s.setR2 n).ctrl = s.ctrl := rfl
@[simp] theorem State.setR2_a0 (s : State) (n : Nat) : (s.setR2 n).a0 = s.a0 := rfl
@[simp] theorem State.setR2_a1 (s : State) (n : Nat) : (s.setR2 n).a1 = s.a1 := rfl
@[simp] theorem State.setR2_a2 (s : State) (n : Nat) : (s.setR2 n).a2 = s.a2 := rfl
@[simp] theorem State.setR2_a3 (s : State) (n : Nat) : (s.setR2 n).a3 = s.a3 := rfl
@[simp] theorem State.setR2_a4 (s : State) (n : Nat) : (s.setR2 n).a4 = s.a4 := rfl
@[simp] theorem State.setR2_r0 (s : State) (n : Nat) : (s.setR2 n).r0 = s.r0 := rfl
@[simp] theorem State.setR2_r1 (s : State) (n : Nat) : (s.setR2 n).r1 = s.r1 := rfl
@[simp] theorem State.setR2_r2 (s : State) (n : Nat) : (s.setR2 n).r2 = BitVec.ofNat 32 n := rfl
@[simp] theorem State.setR2_r3 (s : State) (n : Nat) : (s.setR2 n).r3 = s.r3 := rfl
@[simp] theorem State.setR2_frameCur (s : State) (n : Nat) : (s.setR2 n).frameCur = s.frameCur := rfl
@[simp] theorem State.setR2_frameEnd (s : State) (n : Nat) : (s.setR2 n).frameEnd = s.frameEnd := rfl
@[simp] theorem State.setR2_patBase (s : State) (n : Nat) : (s.setR2 n).patBase = s.patBase := rfl
@[simp] theorem State.setR2_patSize (s : State) (n : Nat) : (s.setR2 n).patSize = s.patSize := rfl
@[simp] theorem State.setR2_fdt0 (s : State) (n : Nat) : (s.setR2 n).fdt0 = s.fdt0 := rfl
@[simp] theorem State.setR2_fdt1 (s : State) (n : Nat) : (s.setR2 n).fdt1 = s.fdt1 := rfl
@[simp] theorem State.setR2_ovl (s : State) (n : Nat) : (s.setR2 n).ovl = s.ovl := rfl
@[simp] theorem State.setR2_mask (s : State) (n : Nat) : (s.setR2 n).mask = s.mask := rfl
@[simp] theorem State.setR2_mem (s : State) (n : Nat) : (s.setR2 n).mem = s.mem := rfl
@[simp] theorem State.setR2_script (s : State) (n : Nat) : (s.setR2 n).script = s.script := rfl
@[simp] theorem State.setR2_pc (s : State) (n : Nat) : (s.setR2 n).pc = s.pc := rfl
@[simp] theorem State.setR2_rdata (s : State) (n : Nat) : (s.setR2 n).rdata = s.rdata := rfl

/-! ### setR3 -/

@[simp] theorem State.setR3_params (s : State) (n : Nat) : (s.setR3 n).params = s.params := rfl
@[simp] theorem State.setR3_cmd (s : State) (n : Nat) : (s.setR3 n).cmd = s.cmd := rfl
@[simp] theorem State.setR3_status (s : State) (n : Nat) : (s.setR3 n).status = s.status := rfl
@[simp] theorem State.setR3_err (s : State) (n : Nat) : (s.setR3 n).err = s.err := rfl
@[simp] theorem State.setR3_errInfo (s : State) (n : Nat) : (s.setR3 n).errInfo = s.errInfo := rfl
@[simp] theorem State.setR3_ctrl (s : State) (n : Nat) : (s.setR3 n).ctrl = s.ctrl := rfl
@[simp] theorem State.setR3_a0 (s : State) (n : Nat) : (s.setR3 n).a0 = s.a0 := rfl
@[simp] theorem State.setR3_a1 (s : State) (n : Nat) : (s.setR3 n).a1 = s.a1 := rfl
@[simp] theorem State.setR3_a2 (s : State) (n : Nat) : (s.setR3 n).a2 = s.a2 := rfl
@[simp] theorem State.setR3_a3 (s : State) (n : Nat) : (s.setR3 n).a3 = s.a3 := rfl
@[simp] theorem State.setR3_a4 (s : State) (n : Nat) : (s.setR3 n).a4 = s.a4 := rfl
@[simp] theorem State.setR3_r0 (s : State) (n : Nat) : (s.setR3 n).r0 = s.r0 := rfl
@[simp] theorem State.setR3_r1 (s : State) (n : Nat) : (s.setR3 n).r1 = s.r1 := rfl
@[simp] theorem State.setR3_r2 (s : State) (n : Nat) : (s.setR3 n).r2 = s.r2 := rfl
@[simp] theorem State.setR3_r3 (s : State) (n : Nat) : (s.setR3 n).r3 = BitVec.ofNat 32 n := rfl
@[simp] theorem State.setR3_frameCur (s : State) (n : Nat) : (s.setR3 n).frameCur = s.frameCur := rfl
@[simp] theorem State.setR3_frameEnd (s : State) (n : Nat) : (s.setR3 n).frameEnd = s.frameEnd := rfl
@[simp] theorem State.setR3_patBase (s : State) (n : Nat) : (s.setR3 n).patBase = s.patBase := rfl
@[simp] theorem State.setR3_patSize (s : State) (n : Nat) : (s.setR3 n).patSize = s.patSize := rfl
@[simp] theorem State.setR3_fdt0 (s : State) (n : Nat) : (s.setR3 n).fdt0 = s.fdt0 := rfl
@[simp] theorem State.setR3_fdt1 (s : State) (n : Nat) : (s.setR3 n).fdt1 = s.fdt1 := rfl
@[simp] theorem State.setR3_ovl (s : State) (n : Nat) : (s.setR3 n).ovl = s.ovl := rfl
@[simp] theorem State.setR3_mask (s : State) (n : Nat) : (s.setR3 n).mask = s.mask := rfl
@[simp] theorem State.setR3_mem (s : State) (n : Nat) : (s.setR3 n).mem = s.mem := rfl
@[simp] theorem State.setR3_script (s : State) (n : Nat) : (s.setR3 n).script = s.script := rfl
@[simp] theorem State.setR3_pc (s : State) (n : Nat) : (s.setR3 n).pc = s.pc := rfl
@[simp] theorem State.setR3_rdata (s : State) (n : Nat) : (s.setR3 n).rdata = s.rdata := rfl

/-! ### stage -/

@[simp] theorem State.stage_params (s : State) (off : Nat) (vs : List Byte) : (s.stage off vs).params = s.params := rfl
@[simp] theorem State.stage_cmd (s : State) (off : Nat) (vs : List Byte) : (s.stage off vs).cmd = s.cmd := rfl
@[simp] theorem State.stage_status (s : State) (off : Nat) (vs : List Byte) : (s.stage off vs).status = s.status := rfl
@[simp] theorem State.stage_err (s : State) (off : Nat) (vs : List Byte) : (s.stage off vs).err = s.err := rfl
@[simp] theorem State.stage_errInfo (s : State) (off : Nat) (vs : List Byte) : (s.stage off vs).errInfo = s.errInfo := rfl
@[simp] theorem State.stage_ctrl (s : State) (off : Nat) (vs : List Byte) : (s.stage off vs).ctrl = s.ctrl := rfl
@[simp] theorem State.stage_a0 (s : State) (off : Nat) (vs : List Byte) : (s.stage off vs).a0 = s.a0 := rfl
@[simp] theorem State.stage_a1 (s : State) (off : Nat) (vs : List Byte) : (s.stage off vs).a1 = s.a1 := rfl
@[simp] theorem State.stage_a2 (s : State) (off : Nat) (vs : List Byte) : (s.stage off vs).a2 = s.a2 := rfl
@[simp] theorem State.stage_a3 (s : State) (off : Nat) (vs : List Byte) : (s.stage off vs).a3 = s.a3 := rfl
@[simp] theorem State.stage_a4 (s : State) (off : Nat) (vs : List Byte) : (s.stage off vs).a4 = s.a4 := rfl
@[simp] theorem State.stage_r0 (s : State) (off : Nat) (vs : List Byte) : (s.stage off vs).r0 = s.r0 := rfl
@[simp] theorem State.stage_r1 (s : State) (off : Nat) (vs : List Byte) : (s.stage off vs).r1 = s.r1 := rfl
@[simp] theorem State.stage_r2 (s : State) (off : Nat) (vs : List Byte) : (s.stage off vs).r2 = s.r2 := rfl
@[simp] theorem State.stage_r3 (s : State) (off : Nat) (vs : List Byte) : (s.stage off vs).r3 = s.r3 := rfl
@[simp] theorem State.stage_frameCur (s : State) (off : Nat) (vs : List Byte) : (s.stage off vs).frameCur = s.frameCur := rfl
@[simp] theorem State.stage_frameEnd (s : State) (off : Nat) (vs : List Byte) : (s.stage off vs).frameEnd = s.frameEnd := rfl
@[simp] theorem State.stage_patBase (s : State) (off : Nat) (vs : List Byte) : (s.stage off vs).patBase = s.patBase := rfl
@[simp] theorem State.stage_patSize (s : State) (off : Nat) (vs : List Byte) : (s.stage off vs).patSize = s.patSize := rfl
@[simp] theorem State.stage_fdt0 (s : State) (off : Nat) (vs : List Byte) : (s.stage off vs).fdt0 = s.fdt0 := rfl
@[simp] theorem State.stage_fdt1 (s : State) (off : Nat) (vs : List Byte) : (s.stage off vs).fdt1 = s.fdt1 := rfl
@[simp] theorem State.stage_ovl (s : State) (off : Nat) (vs : List Byte) : (s.stage off vs).ovl = cellWriteAll s.ovl off vs := rfl
@[simp] theorem State.stage_mask (s : State) (off : Nat) (vs : List Byte) : (s.stage off vs).mask = (List.range' off vs.length).foldl offsetInsert s.mask := rfl
@[simp] theorem State.stage_mem (s : State) (off : Nat) (vs : List Byte) : (s.stage off vs).mem = s.mem := rfl
@[simp] theorem State.stage_script (s : State) (off : Nat) (vs : List Byte) : (s.stage off vs).script = s.script := rfl
@[simp] theorem State.stage_pc (s : State) (off : Nat) (vs : List Byte) : (s.stage off vs).pc = s.pc := rfl
@[simp] theorem State.stage_rdata (s : State) (off : Nat) (vs : List Byte) : (s.stage off vs).rdata = s.rdata := rfl

/-! ### clearStage -/

@[simp] theorem State.clearStage_params (s : State) : (s.clearStage).params = s.params := rfl
@[simp] theorem State.clearStage_cmd (s : State) : (s.clearStage).cmd = s.cmd := rfl
@[simp] theorem State.clearStage_status (s : State) : (s.clearStage).status = s.status := rfl
@[simp] theorem State.clearStage_err (s : State) : (s.clearStage).err = s.err := rfl
@[simp] theorem State.clearStage_errInfo (s : State) : (s.clearStage).errInfo = s.errInfo := rfl
@[simp] theorem State.clearStage_ctrl (s : State) : (s.clearStage).ctrl = s.ctrl := rfl
@[simp] theorem State.clearStage_a0 (s : State) : (s.clearStage).a0 = s.a0 := rfl
@[simp] theorem State.clearStage_a1 (s : State) : (s.clearStage).a1 = s.a1 := rfl
@[simp] theorem State.clearStage_a2 (s : State) : (s.clearStage).a2 = s.a2 := rfl
@[simp] theorem State.clearStage_a3 (s : State) : (s.clearStage).a3 = s.a3 := rfl
@[simp] theorem State.clearStage_a4 (s : State) : (s.clearStage).a4 = s.a4 := rfl
@[simp] theorem State.clearStage_r0 (s : State) : (s.clearStage).r0 = s.r0 := rfl
@[simp] theorem State.clearStage_r1 (s : State) : (s.clearStage).r1 = s.r1 := rfl
@[simp] theorem State.clearStage_r2 (s : State) : (s.clearStage).r2 = s.r2 := rfl
@[simp] theorem State.clearStage_r3 (s : State) : (s.clearStage).r3 = s.r3 := rfl
@[simp] theorem State.clearStage_frameCur (s : State) : (s.clearStage).frameCur = s.frameCur := rfl
@[simp] theorem State.clearStage_frameEnd (s : State) : (s.clearStage).frameEnd = s.frameEnd := rfl
@[simp] theorem State.clearStage_patBase (s : State) : (s.clearStage).patBase = s.patBase := rfl
@[simp] theorem State.clearStage_patSize (s : State) : (s.clearStage).patSize = s.patSize := rfl
@[simp] theorem State.clearStage_fdt0 (s : State) : (s.clearStage).fdt0 = s.fdt0 := rfl
@[simp] theorem State.clearStage_fdt1 (s : State) : (s.clearStage).fdt1 = s.fdt1 := rfl
@[simp] theorem State.clearStage_ovl (s : State) : (s.clearStage).ovl = s.ovl := rfl
@[simp] theorem State.clearStage_mask (s : State) : (s.clearStage).mask = [] := rfl
@[simp] theorem State.clearStage_mem (s : State) : (s.clearStage).mem = s.mem := rfl
@[simp] theorem State.clearStage_script (s : State) : (s.clearStage).script = s.script := rfl
@[simp] theorem State.clearStage_pc (s : State) : (s.clearStage).pc = s.pc := rfl
@[simp] theorem State.clearStage_rdata (s : State) : (s.clearStage).rdata = s.rdata := rfl

/-! ### closePattern -/

@[simp] theorem State.closePattern_params (s : State) : (s.closePattern).params = s.params := rfl
@[simp] theorem State.closePattern_cmd (s : State) : (s.closePattern).cmd = s.cmd := rfl
@[simp] theorem State.closePattern_status (s : State) : (s.closePattern).status = putBit s.status 16 false := rfl
@[simp] theorem State.closePattern_err (s : State) : (s.closePattern).err = s.err := rfl
@[simp] theorem State.closePattern_errInfo (s : State) : (s.closePattern).errInfo = s.errInfo := rfl
@[simp] theorem State.closePattern_ctrl (s : State) : (s.closePattern).ctrl = s.ctrl := rfl
@[simp] theorem State.closePattern_a0 (s : State) : (s.closePattern).a0 = s.a0 := rfl
@[simp] theorem State.closePattern_a1 (s : State) : (s.closePattern).a1 = s.a1 := rfl
@[simp] theorem State.closePattern_a2 (s : State) : (s.closePattern).a2 = s.a2 := rfl
@[simp] theorem State.closePattern_a3 (s : State) : (s.closePattern).a3 = s.a3 := rfl
@[simp] theorem State.closePattern_a4 (s : State) : (s.closePattern).a4 = s.a4 := rfl
@[simp] theorem State.closePattern_r0 (s : State) : (s.closePattern).r0 = s.r0 := rfl
@[simp] theorem State.closePattern_r1 (s : State) : (s.closePattern).r1 = s.r1 := rfl
@[simp] theorem State.closePattern_r2 (s : State) : (s.closePattern).r2 = s.r2 := rfl
@[simp] theorem State.closePattern_r3 (s : State) : (s.closePattern).r3 = s.r3 := rfl
@[simp] theorem State.closePattern_frameCur (s : State) : (s.closePattern).frameCur = s.frameCur := rfl
@[simp] theorem State.closePattern_frameEnd (s : State) : (s.closePattern).frameEnd = s.frameEnd := rfl
@[simp] theorem State.closePattern_patBase (s : State) : (s.closePattern).patBase = s.patBase := rfl
@[simp] theorem State.closePattern_patSize (s : State) : (s.closePattern).patSize = s.patSize := rfl
@[simp] theorem State.closePattern_fdt0 (s : State) : (s.closePattern).fdt0 = s.fdt0 := rfl
@[simp] theorem State.closePattern_fdt1 (s : State) : (s.closePattern).fdt1 = s.fdt1 := rfl
@[simp] theorem State.closePattern_ovl (s : State) : (s.closePattern).ovl = s.ovl := rfl
@[simp] theorem State.closePattern_mask (s : State) : (s.closePattern).mask = [] := rfl
@[simp] theorem State.closePattern_mem (s : State) : (s.closePattern).mem = s.mem := rfl
@[simp] theorem State.closePattern_script (s : State) : (s.closePattern).script = s.script := rfl
@[simp] theorem State.closePattern_pc (s : State) : (s.closePattern).pc = s.pc := rfl
@[simp] theorem State.closePattern_rdata (s : State) : (s.closePattern).rdata = s.rdata := rfl

/-! ### busError -/

@[simp] theorem State.busError_params (s : State) : (s.busError).params = s.params := rfl
@[simp] theorem State.busError_cmd (s : State) : (s.busError).cmd = s.cmd := rfl
@[simp] theorem State.busError_status (s : State) : (s.busError).status = putBit s.status 12 true := rfl
@[simp] theorem State.busError_err (s : State) : (s.busError).err = s.err := rfl
@[simp] theorem State.busError_errInfo (s : State) : (s.busError).errInfo = s.errInfo := rfl
@[simp] theorem State.busError_ctrl (s : State) : (s.busError).ctrl = s.ctrl := rfl
@[simp] theorem State.busError_a0 (s : State) : (s.busError).a0 = s.a0 := rfl
@[simp] theorem State.busError_a1 (s : State) : (s.busError).a1 = s.a1 := rfl
@[simp] theorem State.busError_a2 (s : State) : (s.busError).a2 = s.a2 := rfl
@[simp] theorem State.busError_a3 (s : State) : (s.busError).a3 = s.a3 := rfl
@[simp] theorem State.busError_a4 (s : State) : (s.busError).a4 = s.a4 := rfl
@[simp] theorem State.busError_r0 (s : State) : (s.busError).r0 = s.r0 := rfl
@[simp] theorem State.busError_r1 (s : State) : (s.busError).r1 = s.r1 := rfl
@[simp] theorem State.busError_r2 (s : State) : (s.busError).r2 = s.r2 := rfl
@[simp] theorem State.busError_r3 (s : State) : (s.busError).r3 = s.r3 := rfl
@[simp] theorem State.busError_frameCur (s : State) : (s.busError).frameCur = s.frameCur := rfl
@[simp] theorem State.busError_frameEnd (s : State) : (s.busError).frameEnd = s.frameEnd := rfl
@[simp] theorem State.busError_patBase (s : State) : (s.busError).patBase = s.patBase := rfl
@[simp] theorem State.busError_patSize (s : State) : (s.busError).patSize = s.patSize := rfl
@[simp] theorem State.busError_fdt0 (s : State) : (s.busError).fdt0 = s.fdt0 := rfl
@[simp] theorem State.busError_fdt1 (s : State) : (s.busError).fdt1 = s.fdt1 := rfl
@[simp] theorem State.busError_ovl (s : State) : (s.busError).ovl = s.ovl := rfl
@[simp] theorem State.busError_mask (s : State) : (s.busError).mask = s.mask := rfl
@[simp] theorem State.busError_mem (s : State) : (s.busError).mem = s.mem := rfl
@[simp] theorem State.busError_script (s : State) : (s.busError).script = s.script := rfl
@[simp] theorem State.busError_pc (s : State) : (s.busError).pc = s.pc := rfl
@[simp] theorem State.busError_rdata (s : State) : (s.busError).rdata = s.rdata := rfl

/-! ### returned -/

@[simp] theorem State.returned_params (s : State) (v : Word) : (s.returned v).params = s.params := rfl
@[simp] theorem State.returned_cmd (s : State) (v : Word) : (s.returned v).cmd = s.cmd := rfl
@[simp] theorem State.returned_status (s : State) (v : Word) : (s.returned v).status = s.status := rfl
@[simp] theorem State.returned_err (s : State) (v : Word) : (s.returned v).err = s.err := rfl
@[simp] theorem State.returned_errInfo (s : State) (v : Word) : (s.returned v).errInfo = s.errInfo := rfl
@[simp] theorem State.returned_ctrl (s : State) (v : Word) : (s.returned v).ctrl = s.ctrl := rfl
@[simp] theorem State.returned_a0 (s : State) (v : Word) : (s.returned v).a0 = s.a0 := rfl
@[simp] theorem State.returned_a1 (s : State) (v : Word) : (s.returned v).a1 = s.a1 := rfl
@[simp] theorem State.returned_a2 (s : State) (v : Word) : (s.returned v).a2 = s.a2 := rfl
@[simp] theorem State.returned_a3 (s : State) (v : Word) : (s.returned v).a3 = s.a3 := rfl
@[simp] theorem State.returned_a4 (s : State) (v : Word) : (s.returned v).a4 = s.a4 := rfl
@[simp] theorem State.returned_r0 (s : State) (v : Word) : (s.returned v).r0 = s.r0 := rfl
@[simp] theorem State.returned_r1 (s : State) (v : Word) : (s.returned v).r1 = s.r1 := rfl
@[simp] theorem State.returned_r2 (s : State) (v : Word) : (s.returned v).r2 = s.r2 := rfl
@[simp] theorem State.returned_r3 (s : State) (v : Word) : (s.returned v).r3 = s.r3 := rfl
@[simp] theorem State.returned_frameCur (s : State) (v : Word) : (s.returned v).frameCur = s.frameCur := rfl
@[simp] theorem State.returned_frameEnd (s : State) (v : Word) : (s.returned v).frameEnd = s.frameEnd := rfl
@[simp] theorem State.returned_patBase (s : State) (v : Word) : (s.returned v).patBase = s.patBase := rfl
@[simp] theorem State.returned_patSize (s : State) (v : Word) : (s.returned v).patSize = s.patSize := rfl
@[simp] theorem State.returned_fdt0 (s : State) (v : Word) : (s.returned v).fdt0 = s.fdt0 := rfl
@[simp] theorem State.returned_fdt1 (s : State) (v : Word) : (s.returned v).fdt1 = s.fdt1 := rfl
@[simp] theorem State.returned_ovl (s : State) (v : Word) : (s.returned v).ovl = s.ovl := rfl
@[simp] theorem State.returned_mask (s : State) (v : Word) : (s.returned v).mask = s.mask := rfl
@[simp] theorem State.returned_mem (s : State) (v : Word) : (s.returned v).mem = s.mem := rfl
@[simp] theorem State.returned_script (s : State) (v : Word) : (s.returned v).script = s.script := rfl
@[simp] theorem State.returned_pc (s : State) (v : Word) : (s.returned v).pc = s.pc := rfl
@[simp] theorem State.returned_rdata (s : State) (v : Word) : (s.returned v).rdata = v := rfl

/-! ### advance -/

@[simp] theorem State.advance_params (s : State) : (s.advance).params = s.params := rfl
@[simp] theorem State.advance_cmd (s : State) : (s.advance).cmd = s.cmd := rfl
@[simp] theorem State.advance_status (s : State) : (s.advance).status = s.status := rfl
@[simp] theorem State.advance_err (s : State) : (s.advance).err = s.err := rfl
@[simp] theorem State.advance_errInfo (s : State) : (s.advance).errInfo = s.errInfo := rfl
@[simp] theorem State.advance_ctrl (s : State) : (s.advance).ctrl = s.ctrl := rfl
@[simp] theorem State.advance_a0 (s : State) : (s.advance).a0 = s.a0 := rfl
@[simp] theorem State.advance_a1 (s : State) : (s.advance).a1 = s.a1 := rfl
@[simp] theorem State.advance_a2 (s : State) : (s.advance).a2 = s.a2 := rfl
@[simp] theorem State.advance_a3 (s : State) : (s.advance).a3 = s.a3 := rfl
@[simp] theorem State.advance_a4 (s : State) : (s.advance).a4 = s.a4 := rfl
@[simp] theorem State.advance_r0 (s : State) : (s.advance).r0 = s.r0 := rfl
@[simp] theorem State.advance_r1 (s : State) : (s.advance).r1 = s.r1 := rfl
@[simp] theorem State.advance_r2 (s : State) : (s.advance).r2 = s.r2 := rfl
@[simp] theorem State.advance_r3 (s : State) : (s.advance).r3 = s.r3 := rfl
@[simp] theorem State.advance_frameCur (s : State) : (s.advance).frameCur = s.frameCur := rfl
@[simp] theorem State.advance_frameEnd (s : State) : (s.advance).frameEnd = s.frameEnd := rfl
@[simp] theorem State.advance_patBase (s : State) : (s.advance).patBase = s.patBase := rfl
@[simp] theorem State.advance_patSize (s : State) : (s.advance).patSize = s.patSize := rfl
@[simp] theorem State.advance_fdt0 (s : State) : (s.advance).fdt0 = s.fdt0 := rfl
@[simp] theorem State.advance_fdt1 (s : State) : (s.advance).fdt1 = s.fdt1 := rfl
@[simp] theorem State.advance_ovl (s : State) : (s.advance).ovl = s.ovl := rfl
@[simp] theorem State.advance_mask (s : State) : (s.advance).mask = s.mask := rfl
@[simp] theorem State.advance_mem (s : State) : (s.advance).mem = s.mem := rfl
@[simp] theorem State.advance_script (s : State) : (s.advance).script = s.script := rfl
@[simp] theorem State.advance_pc (s : State) : (s.advance).pc = s.pc + 1 := rfl
@[simp] theorem State.advance_rdata (s : State) : (s.advance).rdata = s.rdata := rfl

/-! ### softReset -/

@[simp] theorem State.softReset_params (s : State) : (s.softReset).params = s.params := rfl
@[simp] theorem State.softReset_cmd (s : State) : (s.softReset).cmd = s.cmd := rfl
@[simp] theorem State.softReset_status (s : State) : (s.softReset).status = 0#32 := rfl
@[simp] theorem State.softReset_err (s : State) : (s.softReset).err = 0#32 := rfl
@[simp] theorem State.softReset_errInfo (s : State) : (s.softReset).errInfo = 0#32 := rfl
@[simp] theorem State.softReset_ctrl (s : State) : (s.softReset).ctrl = 4#32 := rfl
@[simp] theorem State.softReset_a0 (s : State) : (s.softReset).a0 = 0#32 := rfl
@[simp] theorem State.softReset_a1 (s : State) : (s.softReset).a1 = 0#32 := rfl
@[simp] theorem State.softReset_a2 (s : State) : (s.softReset).a2 = 0#32 := rfl
@[simp] theorem State.softReset_a3 (s : State) : (s.softReset).a3 = 0#32 := rfl
@[simp] theorem State.softReset_a4 (s : State) : (s.softReset).a4 = 0#32 := rfl
@[simp] theorem State.softReset_r0 (s : State) : (s.softReset).r0 = 0#32 := rfl
@[simp] theorem State.softReset_r1 (s : State) : (s.softReset).r1 = 0#32 := rfl
@[simp] theorem State.softReset_r2 (s : State) : (s.softReset).r2 = 0#32 := rfl
@[simp] theorem State.softReset_r3 (s : State) : (s.softReset).r3 = 0#32 := rfl
@[simp] theorem State.softReset_frameCur (s : State) : (s.softReset).frameCur = 0#32 := rfl
@[simp] theorem State.softReset_frameEnd (s : State) : (s.softReset).frameEnd = 0#32 := rfl
@[simp] theorem State.softReset_patBase (s : State) : (s.softReset).patBase = 0#32 := rfl
@[simp] theorem State.softReset_patSize (s : State) : (s.softReset).patSize = 0#32 := rfl
@[simp] theorem State.softReset_fdt0 (s : State) : (s.softReset).fdt0 = Vector.replicate 32 ⟨0#32, 0#32⟩ := rfl
@[simp] theorem State.softReset_fdt1 (s : State) : (s.softReset).fdt1 = Vector.replicate 32 ⟨0#32, 0#32⟩ := rfl
@[simp] theorem State.softReset_ovl (s : State) : (s.softReset).ovl = s.ovl := rfl
@[simp] theorem State.softReset_mask (s : State) : (s.softReset).mask = [] := rfl
@[simp] theorem State.softReset_mem (s : State) : (s.softReset).mem = s.mem := rfl
@[simp] theorem State.softReset_script (s : State) : (s.softReset).script = s.script := rfl
@[simp] theorem State.softReset_pc (s : State) : (s.softReset).pc = s.pc := rfl
@[simp] theorem State.softReset_rdata (s : State) : (s.softReset).rdata = s.rdata := rfl

/-! ### setEntry -/

@[simp] theorem State.setEntry_params (s : State) (b : Bool) (e : BitVec 5) (v : FdtEntry) : (s.setEntry b e v).params = s.params := by cases b <;> rfl
@[simp] theorem State.setEntry_cmd (s : State) (b : Bool) (e : BitVec 5) (v : FdtEntry) : (s.setEntry b e v).cmd = s.cmd := by cases b <;> rfl
@[simp] theorem State.setEntry_status (s : State) (b : Bool) (e : BitVec 5) (v : FdtEntry) : (s.setEntry b e v).status = s.status := by cases b <;> rfl
@[simp] theorem State.setEntry_err (s : State) (b : Bool) (e : BitVec 5) (v : FdtEntry) : (s.setEntry b e v).err = s.err := by cases b <;> rfl
@[simp] theorem State.setEntry_errInfo (s : State) (b : Bool) (e : BitVec 5) (v : FdtEntry) : (s.setEntry b e v).errInfo = s.errInfo := by cases b <;> rfl
@[simp] theorem State.setEntry_ctrl (s : State) (b : Bool) (e : BitVec 5) (v : FdtEntry) : (s.setEntry b e v).ctrl = s.ctrl := by cases b <;> rfl
@[simp] theorem State.setEntry_a0 (s : State) (b : Bool) (e : BitVec 5) (v : FdtEntry) : (s.setEntry b e v).a0 = s.a0 := by cases b <;> rfl
@[simp] theorem State.setEntry_a1 (s : State) (b : Bool) (e : BitVec 5) (v : FdtEntry) : (s.setEntry b e v).a1 = s.a1 := by cases b <;> rfl
@[simp] theorem State.setEntry_a2 (s : State) (b : Bool) (e : BitVec 5) (v : FdtEntry) : (s.setEntry b e v).a2 = s.a2 := by cases b <;> rfl
@[simp] theorem State.setEntry_a3 (s : State) (b : Bool) (e : BitVec 5) (v : FdtEntry) : (s.setEntry b e v).a3 = s.a3 := by cases b <;> rfl
@[simp] theorem State.setEntry_a4 (s : State) (b : Bool) (e : BitVec 5) (v : FdtEntry) : (s.setEntry b e v).a4 = s.a4 := by cases b <;> rfl
@[simp] theorem State.setEntry_r0 (s : State) (b : Bool) (e : BitVec 5) (v : FdtEntry) : (s.setEntry b e v).r0 = s.r0 := by cases b <;> rfl
@[simp] theorem State.setEntry_r1 (s : State) (b : Bool) (e : BitVec 5) (v : FdtEntry) : (s.setEntry b e v).r1 = s.r1 := by cases b <;> rfl
@[simp] theorem State.setEntry_r2 (s : State) (b : Bool) (e : BitVec 5) (v : FdtEntry) : (s.setEntry b e v).r2 = s.r2 := by cases b <;> rfl
@[simp] theorem State.setEntry_r3 (s : State) (b : Bool) (e : BitVec 5) (v : FdtEntry) : (s.setEntry b e v).r3 = s.r3 := by cases b <;> rfl
@[simp] theorem State.setEntry_frameCur (s : State) (b : Bool) (e : BitVec 5) (v : FdtEntry) : (s.setEntry b e v).frameCur = s.frameCur := by cases b <;> rfl
@[simp] theorem State.setEntry_frameEnd (s : State) (b : Bool) (e : BitVec 5) (v : FdtEntry) : (s.setEntry b e v).frameEnd = s.frameEnd := by cases b <;> rfl
@[simp] theorem State.setEntry_patBase (s : State) (b : Bool) (e : BitVec 5) (v : FdtEntry) : (s.setEntry b e v).patBase = s.patBase := by cases b <;> rfl
@[simp] theorem State.setEntry_patSize (s : State) (b : Bool) (e : BitVec 5) (v : FdtEntry) : (s.setEntry b e v).patSize = s.patSize := by cases b <;> rfl
@[simp] theorem State.setEntry_fdt0 (s : State) (b : Bool) (e : BitVec 5) (v : FdtEntry) : (s.setEntry b e v).fdt0 = if b then s.fdt0 else s.fdt0.set e.toNat v e.isLt := by cases b <;> rfl
@[simp] theorem State.setEntry_fdt1 (s : State) (b : Bool) (e : BitVec 5) (v : FdtEntry) : (s.setEntry b e v).fdt1 = if b then s.fdt1.set e.toNat v e.isLt else s.fdt1 := by cases b <;> rfl
@[simp] theorem State.setEntry_ovl (s : State) (b : Bool) (e : BitVec 5) (v : FdtEntry) : (s.setEntry b e v).ovl = s.ovl := by cases b <;> rfl
@[simp] theorem State.setEntry_mask (s : State) (b : Bool) (e : BitVec 5) (v : FdtEntry) : (s.setEntry b e v).mask = s.mask := by cases b <;> rfl
@[simp] theorem State.setEntry_mem (s : State) (b : Bool) (e : BitVec 5) (v : FdtEntry) : (s.setEntry b e v).mem = s.mem := by cases b <;> rfl
@[simp] theorem State.setEntry_script (s : State) (b : Bool) (e : BitVec 5) (v : FdtEntry) : (s.setEntry b e v).script = s.script := by cases b <;> rfl
@[simp] theorem State.setEntry_pc (s : State) (b : Bool) (e : BitVec 5) (v : FdtEntry) : (s.setEntry b e v).pc = s.pc := by cases b <;> rfl
@[simp] theorem State.setEntry_rdata (s : State) (b : Bool) (e : BitVec 5) (v : FdtEntry) : (s.setEntry b e v).rdata = s.rdata := by cases b <;> rfl

end Sys2Proof.Machine
end

