-- ==== Sys2Proof/Laws/Flags.lean ====
section
/-! SUPPORT. STATUS bit by bit: what each update does to each field of STATUS, and which accessors an update leaves alone. -/

namespace Sys2Proof.Machine

/-! ### Bits of a word -/

theorem getLsbD_putBit (w : Word) (i j : Nat) (b : Bool) (hi : i < 32) :
    (putBit w i b).getLsbD j = if j = i then b else w.getLsbD j := by
  unfold putBit
  split
  · rename_i hb
    subst hb
    rw [BitVec.getLsbD_or, BitVec.getLsbD_shiftLeft, BitVec.getLsbD_one]
    by_cases h : j = i
    · subst h; simp [hi]
    · have : ¬(j - i = 0) ∨ j < i := by omega
      rcases this with h1 | h1 <;> simp [h, h1]
  · rename_i hb
    rw [BitVec.getLsbD_and, BitVec.getLsbD_not, BitVec.getLsbD_shiftLeft, BitVec.getLsbD_one]
    by_cases h : j = i
    · subst h; simpa [hi] using hb
    · by_cases hj : j < 32
      · have : ¬(j - i = 0) ∨ j < i := by omega
        rcases this with h1 | h1 <;> simp [h, h1, hj]
      · have : w.getLsbD j = false := BitVec.getLsbD_of_ge _ _ (by omega)
        simp [this, h]

theorem putBit_getLsbD (w : Word) (i : Nat) (hi : i < 32) : putBit w i (w.getLsbD i) = w := by
  apply BitVec.eq_of_getLsbD_eq
  intro j _
  rw [getLsbD_putBit _ _ _ _ hi]
  split
  · subst_vars; rfl
  · rfl

theorem putBit_putBit (w : Word) (i : Nat) (b c : Bool) (hi : i < 32) : putBit (putBit w i b) i c = putBit w i c := by
  apply BitVec.eq_of_getLsbD_eq
  intro j _
  simp only [getLsbD_putBit _ _ _ _ hi]
  split <;> rfl

theorem StatusBit.index_lt (b : StatusBit) : b.index < 32 := by cases b <;> decide

theorem StatusBit.index_inj {a b : StatusBit} : a.index = b.index ↔ a = b := by
  cases a <;> cases b <;> decide

/-! ### Fields of STATUS -/

@[simp] theorem State.flag_setFlag (s : State) (b c : StatusBit) (v : Bool) :
    (s.setFlag b v).flag c = if c = b then v else s.flag c := by
  simp only [State.flag, State.setFlag_status, getLsbD_putBit _ _ _ _ b.index_lt, StatusBit.index_inj]

@[simp] theorem State.flag_warnIf (s : State) (w : Bool) (b c : StatusBit) :
    (s.warnIf w b).flag c = if c = b then w || s.flag c else s.flag c := by
  cases w <;> simp [State.warnIf]

/-- Fault entry sets ERR and ERR_STICKY and no other field. -/
@[simp] theorem State.flag_raiseFault (s : State) (c : FaultCode) (n : Nat) (b : StatusBit) :
    (s.raiseFault c n).flag b = if b = .err ∨ b = .errSticky then true else s.flag b := by
  have h : (s.raiseFault c n).flag b = ((s.setFlag .err true).setFlag .errSticky true).flag b := rfl
  rw [h]
  cases b <;> simp

/-- Dispatch clears ERR and sets BUSY. -/
@[simp] theorem State.flag_beginCommand (s : State) (w : Word) (b : StatusBit) :
    (s.beginCommand w).flag b = if b = .busy then true else if b = .err then false else s.flag b := by
  have h : (s.beginCommand w).flag b = ((s.setFlag .err false).setFlag .busy true).flag b := rfl
  rw [h]
  cases b <;> simp

@[simp] theorem State.flag_endCommand (s : State) (b : StatusBit) :
    s.endCommand.flag b = if b = .busy then false else s.flag b := by
  simp [State.endCommand]

@[simp] theorem State.flag_closePattern (s : State) (b : StatusBit) :
    s.closePattern.flag b = if b = .patOpen then false else s.flag b := by
  have h : s.closePattern.flag b = (s.setFlag .patOpen false).flag b := rfl
  rw [h]
  cases b <;> simp

@[simp] theorem State.flag_busError (s : State) (b : StatusBit) :
    s.busError.flag b = if b = .wBusErr then true else s.flag b := by
  simp [State.busError]

@[simp] theorem State.flag_softReset (s : State) (b : StatusBit) : s.softReset.flag b = false := by
  simp [State.flag]

@[simp] theorem State.flag_storeBytes (s : State) (a : Nat) (vs : List Byte) (b : StatusBit) :
    (s.storeBytes a vs).flag b = s.flag b := rfl
@[simp] theorem State.flag_setR0 (s : State) (n : Nat) (b : StatusBit) : (s.setR0 n).flag b = s.flag b := rfl
@[simp] theorem State.flag_setR1 (s : State) (n : Nat) (b : StatusBit) : (s.setR1 n).flag b = s.flag b := rfl
@[simp] theorem State.flag_setR2 (s : State) (n : Nat) (b : StatusBit) : (s.setR2 n).flag b = s.flag b := rfl
@[simp] theorem State.flag_setR3 (s : State) (n : Nat) (b : StatusBit) : (s.setR3 n).flag b = s.flag b := rfl
@[simp] theorem State.flag_stage (s : State) (off : Nat) (vs : List Byte) (b : StatusBit) :
    (s.stage off vs).flag b = s.flag b := rfl
@[simp] theorem State.flag_clearStage (s : State) (b : StatusBit) : s.clearStage.flag b = s.flag b := rfl
@[simp] theorem State.flag_returned (s : State) (v : Word) (b : StatusBit) : (s.returned v).flag b = s.flag b := rfl
@[simp] theorem State.flag_advance (s : State) (b : StatusBit) : s.advance.flag b = s.flag b := rfl
@[simp] theorem State.flag_setEntry (s : State) (k : Bool) (e : BitVec 5) (v : FdtEntry) (b : StatusBit) :
    (s.setEntry k e v).flag b = s.flag b := by cases k <;> rfl

/-- A host write to STATUS clears a field where the written bit is 1 and the field is write-one-to-clear (10_state R23). -/
theorem State.flag_clearW1C (s : State) (v : Word) (b : StatusBit) :
    (s.clearW1C v).flag b = (s.flag b && !(v.getLsbD b.index && w1cMask.getLsbD b.index)) := by
  have h : b.index < 32 := b.index_lt
  simp [State.flag, h]

/-! ### Accessors of other registers -/

theorem State.variant_eq (s t : State) (h : t.status = s.status) : t.variant = s.variant := by
  simp [State.variant, State.flag, h]

@[simp] theorem State.bank_setFlag (s : State) (b : StatusBit) (v k : Bool) : (s.setFlag b v).bank k = s.bank k := rfl

theorem State.bank_setEntry (s : State) (b k : Bool) (e : BitVec 5) (v : FdtEntry) :
    (s.setEntry b e v).bank k = if k = b then (s.bank b).set e.toNat v e.isLt else s.bank k := by
  cases b <;> cases k <;> rfl

theorem State.bank_softReset (s : State) (k : Bool) : s.softReset.bank k = Vector.replicate 32 ⟨0#32, 0#32⟩ := by
  cases k <;> rfl

end Sys2Proof.Machine
end

