-- ==== Sys2Proof/Laws/Memory.lean ====
section
/-! SUPPORT. MEM, OVL and MASK: what a read gives after a write, that every write keeps the canonical form, what a range read
answers, and what PAT_OVERLAY's read answers. -/

namespace Sys2Proof.Machine

/-! ### Read after write -/

theorem cellRead_cellWrite (m : List Host.Cell) (a x : Nat) (v : Byte) :
    cellRead (cellWrite m a v) x = if a = x then some v else cellRead m x := by
  induction m with
  | nil => simp [cellWrite, cellRead]
  | cons c rest ih =>
    obtain ⟨b, w⟩ := c
    unfold cellWrite
    split
    · simp [cellRead]
    · split
      · rename_i h1 h2
        subst h2
        by_cases h : a = x <;> simp [cellRead, h]
      · rename_i h1 h2
        simp only [cellRead, ih]
        by_cases h : b = x
        · have : ¬a = x := by omega
          simp [h, this]
        · simp [h]

theorem cellRead_cellWriteAll (m : List Host.Cell) (a x : Nat) (vs : List Byte) :
    cellRead (cellWriteAll m a vs) x = if a ≤ x ∧ x < a + vs.length then vs[x - a]? else cellRead m x := by
  induction vs generalizing m a with
  | nil =>
    have : ¬(a ≤ x ∧ x < a + ([] : List Byte).length) := by simp
    rw [if_neg this]; rfl
  | cons v rest ih =>
    rw [cellWriteAll, ih, cellRead_cellWrite]
    by_cases h1 : a = x
    · subst h1
      have h2 : ¬(a + 1 ≤ a ∧ a < a + 1 + rest.length) := by omega
      simp
    · by_cases h3 : a + 1 ≤ x ∧ x < a + 1 + rest.length
      · have h4 : a ≤ x ∧ x < a + (v :: rest).length := by simp only [List.length_cons]; omega
        rw [if_pos h3, if_pos h4]
        have h5 : x - a = (x - (a + 1)) + 1 := by omega
        rw [h5, List.getElem?_cons_succ]
      · have h4 : ¬(a ≤ x ∧ x < a + (v :: rest).length) := by simp only [List.length_cons]; omega
        rw [if_neg h3, if_neg h1, if_neg h4]

/-- What an address of MEM reads as after a store. -/
theorem State.peek_storeBytes (s : State) (a x : Nat) (vs : List Byte) :
    (s.storeBytes a vs).peek x =
      if x < s.params.memBytes then if a ≤ x ∧ x < a + vs.length then vs[x - a]? else cellRead s.mem x else none := by
  simp only [State.peek, State.storeBytes_params, State.storeBytes_mem, cellRead_cellWriteAll]

/-- A store inside MEM leaves exactly its bytes changed. -/
theorem storedAt_of_fits {s t : State} {a : Nat} {vs : List Byte} (hm : t.mem = cellWriteAll s.mem a vs)
    (hp : t.params = s.params) (hf : Fits s a vs.length) : StoredAt s t a vs := by
  intro x
  simp only [State.peek, hm, hp, cellRead_cellWriteAll]
  by_cases h : x < s.params.memBytes
  · simp [h]
  · have h2 : ¬(a ≤ x ∧ x < a + vs.length) := by
      rcases hf with h0 | h0 <;> omega
    rw [if_neg h, if_neg h2, if_neg h]

theorem sameMemory_of_eq {s t : State} (hm : t.mem = s.mem) (hp : t.params = s.params) : SameMemory s t := by
  intro x; simp [State.peek, hm, hp]

/-! ### The canonical form -/

theorem Memory.wf_iff_pairwise (m : List Host.Cell) : Memory.wf m = true ↔ m.Pairwise fun c d => c.1 < d.1 := by
  induction m with
  | nil => simp [Memory.wf]
  | cons c rest ih =>
    cases rest with
    | nil => simp [Memory.wf]
    | cons d rest =>
      obtain ⟨a, v⟩ := c
      obtain ⟨b, w⟩ := d
      rw [Memory.wf, Bool.and_eq_true, ih, decide_eq_true_iff, List.pairwise_cons (a := (a, v))]
      constructor
      · rintro ⟨h1, h2⟩
        refine ⟨?_, h2⟩
        intro e he
        rcases List.mem_cons.1 he with rfl | he'
        · exact h1
        · exact Nat.lt_trans h1 ((List.pairwise_cons.1 h2).1 e he')
      · rintro ⟨h1, h2⟩
        exact ⟨h1 (b, w) (by simp), h2⟩

theorem mem_cellWrite {m : List Host.Cell} {a : Nat} {v : Byte} {c : Host.Cell} (h : c ∈ cellWrite m a v) :
    c = (a, v) ∨ c ∈ m := by
  induction m with
  | nil => simpa [cellWrite] using h
  | cons d rest ih =>
    obtain ⟨b, w⟩ := d
    unfold cellWrite at h
    split at h
    · simpa using h
    · split at h
      · rcases List.mem_cons.1 h with h | h
        · exact .inl h
        · exact .inr (List.mem_cons_of_mem _ h)
      · rcases List.mem_cons.1 h with h | h
        · exact .inr (by simp [h])
        · rcases ih h with h | h
          · exact .inl h
          · exact .inr (List.mem_cons_of_mem _ h)

theorem Memory.wf_cellWrite {m : List Host.Cell} (h : Memory.wf m = true) (a : Nat) (v : Byte) :
    Memory.wf (cellWrite m a v) = true := by
  rw [Memory.wf_iff_pairwise] at *
  induction m with
  | nil => simp [cellWrite]
  | cons d rest ih =>
    obtain ⟨b, w⟩ := d
    have hr := (List.pairwise_cons.1 h).1
    unfold cellWrite
    split
    · rename_i hab
      refine List.pairwise_cons.2 ⟨?_, h⟩
      intro e he
      rcases List.mem_cons.1 he with rfl | he
      · exact hab
      · exact Nat.lt_trans hab (hr e he)
    · split
      · rename_i _ hab
        subst hab
        exact List.pairwise_cons.2 ⟨hr, (List.pairwise_cons.1 h).2⟩
      · refine List.pairwise_cons.2 ⟨?_, ih (List.pairwise_cons.1 h).2⟩
        intro e he
        rcases mem_cellWrite he with rfl | he
        · show b < a; omega
        · exact hr e he

theorem mem_cellWriteAll {m : List Host.Cell} {a : Nat} {vs : List Byte} {c : Host.Cell}
    (h : c ∈ cellWriteAll m a vs) : (a ≤ c.1 ∧ c.1 < a + vs.length) ∨ c ∈ m := by
  induction vs generalizing m a with
  | nil => exact .inr h
  | cons v rest ih =>
    rcases ih h with h | h
    · left; simp only [List.length_cons]; omega
    · rcases mem_cellWrite h with h | h
      · left; subst h; simp
      · exact .inr h

theorem Memory.wf_cellWriteAll {m : List Host.Cell} (h : Memory.wf m = true) (a : Nat) (vs : List Byte) :
    Memory.wf (cellWriteAll m a vs) = true := by
  induction vs generalizing m a with
  | nil => exact h
  | cons v rest ih => exact ih (Memory.wf_cellWrite h a v) (a + 1)

/-- A store into a range that fits keeps MEM canonical. -/
theorem memoryCanonical_storeBytes {s : State} (h : MemoryCanonical s) {a : Nat} {vs : List Byte}
    (hf : Fits s a vs.length) : MemoryCanonical (s.storeBytes a vs) := by
  refine ⟨Memory.wf_cellWriteAll h.1 a vs, ?_⟩
  intro c hc
  rcases mem_cellWriteAll hc with hc | hc
  · show c.1 < s.params.memBytes
    rcases hf with hf | hf <;> omega
  · exact h.2 c hc

theorem reset_memory_wf (p : Params) : Memory.wf (State.resetWith p).mem = true := rfl

/-! ### MASK -/

theorem mem_offsetInsert (m : List Nat) (i j : Nat) : j ∈ offsetInsert m i ↔ j = i ∨ j ∈ m := by
  induction m with
  | nil => simp [offsetInsert]
  | cons k rest ih =>
    unfold offsetInsert
    split
    · simp
    · split
      · rename_i _ h; subst h; simp
      · simp only [List.mem_cons, ih]; tauto

theorem pairwise_offsetInsert {m : List Nat} (h : m.Pairwise (· < ·)) (i : Nat) :
    (offsetInsert m i).Pairwise (· < ·) := by
  induction m with
  | nil => simp [offsetInsert]
  | cons k rest ih =>
    have hk := (List.pairwise_cons.1 h).1
    unfold offsetInsert
    split
    · rename_i hik
      refine List.pairwise_cons.2 ⟨?_, h⟩
      intro e he
      rcases List.mem_cons.1 he with rfl | he
      · exact hik
      · exact Nat.lt_trans hik (hk e he)
    · split
      · exact h
      · refine List.pairwise_cons.2 ⟨?_, ih (List.pairwise_cons.1 h).2⟩
        intro e he
        rcases (mem_offsetInsert _ _ _).1 he with rfl | he
        · omega
        · exact hk e he

theorem mem_foldl_offsetInsert (l m : List Nat) (j : Nat) :
    j ∈ l.foldl offsetInsert m ↔ j ∈ l ∨ j ∈ m := by
  induction l generalizing m with
  | nil => simp
  | cons i rest ih => simp only [List.foldl_cons, ih, mem_offsetInsert, List.mem_cons]; tauto

theorem pairwise_foldl_offsetInsert (l : List Nat) {m : List Nat} (h : m.Pairwise (· < ·)) :
    (l.foldl offsetInsert m).Pairwise (· < ·) := by
  induction l generalizing m with
  | nil => exact h
  | cons i rest ih => exact ih (pairwise_offsetInsert h i)

theorem State.masked_iff (s : State) (i : Nat) : s.masked i = true ↔ i ∈ s.mask := by
  simp [State.masked]

/-- After staging, MASK holds what it held and the staged offsets (43_pattern R181). -/
theorem State.masked_stage (s : State) (off i : Nat) (vs : List Byte) :
    (s.stage off vs).masked i = true ↔ (off ≤ i ∧ i < off + vs.length) ∨ s.masked i = true := by
  simp only [State.masked_iff, State.stage_mask, mem_foldl_offsetInsert, List.mem_range'_1]

/-- After staging, OVL holds the staged bytes, and elsewhere what it held (43_pattern R181). -/
theorem State.ovlByte_stage (s : State) (off i : Nat) (vs : List Byte) :
    (s.stage off vs).ovlByte i =
      if h : off ≤ i ∧ i < off + vs.length then vs[i - off]'(by omega) else s.ovlByte i := by
  simp only [State.ovlByte, State.stage_ovl, cellRead_cellWriteAll]
  split
  · rename_i h
    rw [List.getElem?_eq_getElem (by omega : i - off < vs.length)]; rfl
  · rfl

/-! ### Range reads -/

theorem loadByte_eq_ok {s : State} {a : Nat} {v : Byte} : loadByte s a = .ok v ↔ s.peek a = some v := by
  unfold loadByte State.peek
  split
  · split <;> simp_all
  · simp

/-- A range read answers a sequence of the length asked for, each byte of which stands in MEM. -/
theorem loadBytes_eq_ok {s : State} {a n : Nat} {bs : List Byte} :
    loadBytes s a n = .ok bs ↔ bs.length = n ∧ HasBytes s a bs := by
  induction n generalizing a bs with
  | zero =>
    constructor
    · intro h
      simp only [loadBytes, Except.ok.injEq] at h
      subst h
      exact ⟨rfl, by intro i hi; simp at hi⟩
    · rintro ⟨h, -⟩
      rw [List.length_eq_zero_iff.1 h]; rfl
  | succ n ih =>
    constructor
    · intro h
      simp only [loadBytes, bind, Except.bind] at h
      split at h
      · cases h
      · rename_i v hv
        split at h
        · cases h
        · rename_i vs hvs
          cases h
          obtain ⟨hl, hb⟩ := ih.1 hvs
          refine ⟨by simp [hl], ?_⟩
          intro i hi
          cases i with
          | zero => simpa using loadByte_eq_ok.1 hv
          | succ i =>
            have := hb i (by simpa using hi)
            rw [Nat.add_assoc, Nat.add_comm 1 i] at this
            simpa using this
    · rintro ⟨hl, hb⟩
      cases bs with
      | nil => simp at hl
      | cons v vs =>
        have h1 : loadByte s a = .ok v := loadByte_eq_ok.2 (by simpa using hb 0 (by simp))
        have h2 : loadBytes s (a + 1) n = .ok vs := by
          refine ih.2 ⟨by simpa using hl, ?_⟩
          intro i hi
          have := hb (i + 1) (by simpa using hi)
          rw [Nat.add_assoc, Nat.add_comm 1 i]
          simpa using this
        simp [loadBytes, bind, Except.bind, h1, h2]

/-- A range read stops only as the model's own stops say: UNINIT_READ, or an address beyond MEM. It raises nothing. -/
theorem loadByte_error {s : State} {a : Nat} {e : Stop} (h : loadByte s a = .error e) : ∃ f, e = .halt f := by
  unfold loadByte at h
  split at h
  · split at h
    · cases h
    · cases h; exact ⟨_, rfl⟩
  · cases h; exact ⟨_, rfl⟩

theorem loadBytes_error {s : State} {a n : Nat} {e : Stop} (h : loadBytes s a n = .error e) : ∃ f, e = .halt f := by
  induction n generalizing a with
  | zero => cases h
  | succ n ih =>
    simp only [loadBytes, bind, Except.bind] at h
    split at h
    · rename_i e' he; cases h; exact loadByte_error he
    · split at h
      · rename_i e' he; cases h; exact ih he
      · cases h

theorem overlayByte_eq_ok {s : State} {i : Nat} {v : Byte} : overlayByte s i = .ok v ↔
    (if s.masked i then some (s.ovlByte i) else s.peek (s.patBase.toNat + i)) = some v := by
  unfold overlayByte
  split
  · simp
  · exact loadByte_eq_ok

theorem overlayByte_error {s : State} {i : Nat} {e : Stop} (h : overlayByte s i = .error e) : ∃ f, e = .halt f := by
  unfold overlayByte at h
  split at h
  · cases h
  · exact loadByte_error h

/-- What PAT_OVERLAY's read answers: OVL where MASK is 1, the open buffer elsewhere (43_pattern R183). -/
theorem overlayBytes_eq_ok {s : State} {n i : Nat} {bs : List Byte} :
    overlayBytes s n i = .ok bs ↔ bs.length = n ∧ ∀ j, j < bs.length →
      (if s.masked (i + j) then some (s.ovlByte (i + j)) else s.peek (s.patBase.toNat + (i + j))) = bs[j]? := by
  induction n generalizing i bs with
  | zero =>
    constructor
    · intro h
      simp only [overlayBytes, Except.ok.injEq] at h
      subst h
      exact ⟨rfl, by intro j hj; simp at hj⟩
    · rintro ⟨h, -⟩
      rw [List.length_eq_zero_iff.1 h]; rfl
  | succ n ih =>
    constructor
    · intro h
      simp only [overlayBytes, bind, Except.bind] at h
      split at h
      · cases h
      · rename_i v hv
        split at h
        · cases h
        · rename_i vs hvs
          cases h
          obtain ⟨hl, hb⟩ := ih.1 hvs
          refine ⟨by simp [hl], ?_⟩
          intro j hj
          cases j with
          | zero => simpa using overlayByte_eq_ok.1 hv
          | succ j =>
            have := hb j (by simpa using hj)
            rw [Nat.add_assoc, Nat.add_comm 1 j] at this
            simpa using this
    · rintro ⟨hl, hb⟩
      cases bs with
      | nil => simp at hl
      | cons v vs =>
        have h1 : overlayByte s i = .ok v := overlayByte_eq_ok.2 (by simpa using hb 0 (by simp))
        have h2 : overlayBytes s n (i + 1) = .ok vs := by
          refine ih.2 ⟨by simpa using hl, ?_⟩
          intro j hj
          have := hb (j + 1) (by simpa using hj)
          rw [Nat.add_assoc, Nat.add_comm 1 j]
          simpa using this
        simp [overlayBytes, bind, Except.bind, h1, h2]

theorem overlayBytes_error {s : State} {n i : Nat} {e : Stop} (h : overlayBytes s n i = .error e) : ∃ f, e = .halt f := by
  induction n generalizing i with
  | zero => cases h
  | succ n ih =>
    simp only [overlayBytes, bind, Except.bind] at h
    split at h
    · rename_i e' he; cases h; exact overlayByte_error he
    · split at h
      · rename_i e' he; cases h; exact ih he
      · cases h

end Sys2Proof.Machine
end

