-- ==== Sys2Proof/Laws/Commands.lean ====
section
/-! SUPPORT. How a command's body is taken apart: a bind, a check, a range check, the end of a command; and, for each command,
what its body answers when it completes and what it can raise. -/

namespace Sys2Proof.Machine

/-! ### Sequencing -/

theorem cmd_bind_eq_ok {α β : Type} {x : Cmd α} {f : α → Cmd β} {r : β} :
    (x >>= f) = .ok r ↔ ∃ a, x = .ok a ∧ f a = .ok r := by
  cases x <;> simp [bind, Except.bind]

theorem cmd_bind_eq_error {α β : Type} {x : Cmd α} {f : α → Cmd β} {e : Stop} :
    (x >>= f) = .error e ↔ x = .error e ∨ ∃ a, x = .ok a ∧ f a = .error e := by
  cases x <;> simp [bind, Except.bind]

@[simp] theorem raiseIf_eq_ok {c : Bool} {k : FaultCode} {n : Nat} {u : Unit} :
    raiseIf c k n = .ok u ↔ c = false := by
  cases c <;> simp [raiseIf]

@[simp] theorem raiseIf_eq_error {c : Bool} {k : FaultCode} {n : Nat} {e : Stop} :
    raiseIf c k n = .error e ↔ c = true ∧ e = .raise k n := by
  cases c <;> simp [raiseIf, eq_comm]

@[simp] theorem raiseIf_false (k : FaultCode) (n : Nat) : raiseIf false k n = .ok () := rfl
@[simp] theorem raiseIf_true (k : FaultCode) (n : Nat) : raiseIf true k n = .error (.raise k n) := rfl

/-! ### Ranges -/

theorem rangeOK_iff {s : State} {a n : Nat} : s.rangeOK a n = true ↔ Fits s a n := by
  simp [State.rangeOK, Fits]

theorem rangeOK_eq_false {s : State} {a n : Nat} : s.rangeOK a n = false ↔ ¬Fits s a n := by
  rw [← rangeOK_iff]; simp

theorem overlaps_eq_false {a n b m : Nat} : overlaps a n b m = false ↔ Apart a n b m := by
  simp only [overlaps, Apart]
  rw [← Bool.not_eq_true]
  simp only [Bool.and_eq_true, decide_eq_true_iff]
  omega

theorem overlaps_eq_true {a n b m : Nat} : overlaps a n b m = true ↔ ¬Apart a n b m := by
  rw [← overlaps_eq_false]; simp

@[simp] theorem checkSrc_eq_ok {s : State} {a n : Nat} {u : Unit} : checkSrc s a n = .ok u ↔ Fits s a n := by
  simp [checkSrc, ← rangeOK_iff]

@[simp] theorem checkSrc_eq_error {s : State} {a n : Nat} {e : Stop} :
    checkSrc s a n = .error e ↔ ¬Fits s a n ∧ e = .raise .bounds a := by
  simp [checkSrc, rangeOK_eq_false]

@[simp] theorem checkDst_eq_ok {s : State} {a n cap : Nat} {u : Unit} :
    checkDst s a n cap = .ok u ↔ n ≤ cap ∧ Fits s a n := by
  simp [checkDst, cmd_bind_eq_ok, ← rangeOK_iff]

@[simp] theorem checkDst_eq_error {s : State} {a n cap : Nat} {e : Stop} :
    checkDst s a n cap = .error e ↔
      (cap < n ∧ e = .raise .capacity n) ∨ (n ≤ cap ∧ ¬Fits s a n ∧ e = .raise .bounds a) := by
  simp [checkDst, cmd_bind_eq_error, rangeOK_eq_false]

/-! ### The end of a command -/

theorem commit_ok {s t : State} {b : Cmd State} (h : b = .ok t) : commit s b = .next t := by subst h; rfl

theorem commit_raise {s : State} {b : Cmd State} {c : FaultCode} {n : Nat} (h : b = .error (.raise c n)) :
    commit s b = .next (s.raiseFault c n) := by subst h; rfl

/-- A command answers a next state in two ways: its body completes with it, or its body raises and it is fault entry on the
state before the command (60_exceptions R210). -/
theorem commit_eq_next {s t : State} {b : Cmd State} :
    commit s b = .next t ↔ b = .ok t ∨ ∃ c n, b = .error (.raise c n) ∧ t = s.raiseFault c n := by
  unfold commit
  split
  · constructor
    · intro h; cases h; exact .inl rfl
    · rintro (h | ⟨_, _, h, _⟩) <;> cases h; rfl
  · constructor
    · intro h; cases h; exact .inr ⟨_, _, rfl, rfl⟩
    · rintro (h | ⟨_, _, h, rfl⟩)
      · cases h
      · cases h; rfl
  · constructor
    · intro h; cases h
    · rintro (h | ⟨_, _, h, _⟩) <;> cases h

/-- Once dispatch has cleared STATUS.ERR, a next state with ERR set comes from a raise. -/
theorem commit_faulted {s t : State} {b : Cmd State} (h : commit s b = .next t) (hb : ∀ u, b = .ok u → u.flag .err = false)
    (ht : t.flag .err = true) : ∃ c n, b = .error (.raise c n) ∧ t = s.raiseFault c n := by
  rcases commit_eq_next.1 h with h | h
  · simp [hb t h] at ht
  · exact h

theorem refuseNonclean_eq_ok {s : State} {b : Nat} {f : Option Nat} {u : Unit} :
    refuseNonclean s b f = .ok u ↔ f = none ∨ s.unpackStrict = false := by
  cases f <;> simp [refuseNonclean]

theorem refuseNonclean_eq_error {s : State} {b : Nat} {f : Option Nat} {e : Stop} :
    refuseNonclean s b f = .error e ↔ ∃ i, f = some i ∧ s.unpackStrict = true ∧ e = .raise .noncleanInput (b + i) := by
  cases f <;> simp [refuseNonclean]

theorem requireOpen_eq_ok {s : State} {u : Unit} : requireOpen s = .ok u ↔ s.flag .patOpen = true := by
  simp [requireOpen]

theorem requireOpen_eq_error {s : State} {e : Stop} :
    requireOpen s = .error e ↔ s.flag .patOpen = false ∧ e = .raise .notReady 0 := by
  simp [requireOpen]

theorem elemSel_eq_ok {s : State} {fid : BitVec 5} {i : Nat} {r : FdtEntry × Nat} :
    elemSel s fid i = .ok r ↔ (s.entry fid).valid = true ∧ i < (s.entry fid).count ∧
      r = (s.entry fid, (s.entry fid).start + i * (s.entry fid).elemLen) := by
  simp [elemSel, cmd_bind_eq_ok, @eq_comm _ r]

theorem elemSel_eq_error {s : State} {fid : BitVec 5} {i : Nat} {e : Stop} :
    elemSel s fid i = .error e ↔
      ((s.entry fid).valid = false ∧ e = .raise .badField (badFieldInfo fid 0)) ∨
      ((s.entry fid).valid = true ∧ (s.entry fid).count ≤ i ∧ e = .raise .badField (badFieldInfo fid 1)) := by
  simp [elemSel, cmd_bind_eq_error]

theorem loadU16_eq_ok {s : State} {a v : Nat} :
    loadU16 s a = .ok v ↔ ∃ hi lo, s.peek a = some hi ∧ s.peek (a + 1) = some lo ∧ v = u16be hi lo := by
  simp only [loadU16, cmd_bind_eq_ok, loadByte_eq_ok, Except.ok.injEq]
  constructor
  · rintro ⟨hi, h1, lo, h2, h3⟩; exact ⟨hi, lo, h1, h2, h3.symm⟩
  · rintro ⟨hi, lo, h1, h2, h3⟩; exact ⟨hi, h1, lo, h2, h3.symm⟩

theorem loadU16_error {s : State} {a : Nat} {e : Stop} (h : loadU16 s a = .error e) : ∃ f, e = .halt f := by
  simp only [loadU16, cmd_bind_eq_error] at h
  rcases h with h | ⟨_, _, h | ⟨_, _, h⟩⟩
  · exact loadByte_error h
  · exact loadByte_error h
  · cases h

/-! ### What each body answers when it completes -/

theorem packBody_eq_ok {s t : State} : packBody s = .ok t ↔
    ∃ raw : List Byte, raw.length = s.a1.toNat ∧ HasBytes s s.a0.toNat raw ∧ Fits s s.a0.toNat s.a1.toNat ∧
      (packFn raw).length ≤ s.a4.toNat ∧ Fits s s.a2.toNat (packFn raw).length ∧
      Apart s.a0.toNat s.a1.toNat s.a2.toNat (packFn raw).length ∧
      t = (s.storeBytes s.a2.toNat (packFn raw)).setR0 (packFn raw).length := by
  simp only [packBody, cmd_bind_eq_ok, checkSrc_eq_ok, checkDst_eq_ok, raiseIf_eq_ok, overlaps_eq_false, loadBytes_eq_ok,
    Except.ok.injEq]
  constructor
  · rintro ⟨-, h1, raw, ⟨h2, h3⟩, -, ⟨h4, h5⟩, -, h6, h7⟩
    exact ⟨raw, h2, h3, h1, h4, h5, h6, h7.symm⟩
  · rintro ⟨raw, h2, h3, h1, h4, h5, h6, h7⟩
    exact ⟨(), h1, raw, ⟨h2, h3⟩, (), ⟨h4, h5⟩, (), h6, h7.symm⟩

theorem unpackBody_eq_ok {s t : State} : unpackBody s = .ok t ↔
    ∃ p : List Byte, p.length = s.a1.toNat ∧ HasBytes s s.a0.toNat p ∧ Fits s s.a0.toNat s.a1.toNat ∧
      (firstNonclean p = none ∨ s.unpackStrict = false) ∧ (unpackFn p).length ≤ s.a4.toNat ∧
      Fits s s.a2.toNat (unpackFn p).length ∧ Apart s.a0.toNat s.a1.toNat s.a2.toNat (unpackFn p).length ∧
      t = ((s.storeBytes s.a2.toNat (unpackFn p)).setR0 (unpackFn p).length).warnIf (firstNonclean p).isSome .wNonclean := by
  simp only [unpackBody, cmd_bind_eq_ok, checkSrc_eq_ok, checkDst_eq_ok, raiseIf_eq_ok, overlaps_eq_false, loadBytes_eq_ok,
    refuseNonclean_eq_ok, Except.ok.injEq]
  constructor
  · rintro ⟨-, h1, p, ⟨h2, h3⟩, -, h0, -, ⟨h4, h5⟩, -, h6, h7⟩
    exact ⟨p, h2, h3, h1, h0, h4, h5, h6, h7.symm⟩
  · rintro ⟨p, h2, h3, h1, h0, h4, h5, h6, h7⟩
    exact ⟨(), h1, p, ⟨h2, h3⟩, (), h0, (), ⟨h4, h5⟩, (), h6, h7.symm⟩

theorem checksumBody_eq_ok {s t : State} : checksumBody s = .ok t ↔
    ∃ bs : List Byte, bs.length = s.a1.toNat ∧ HasBytes s s.a0.toNat bs ∧ Fits s s.a0.toNat s.a1.toNat ∧
      t = s.setR0 (checksumFn bs) := by
  simp only [checksumBody, cmd_bind_eq_ok, checkSrc_eq_ok, loadBytes_eq_ok, Except.ok.injEq]
  constructor
  · rintro ⟨-, h1, bs, ⟨h2, h3⟩, h7⟩; exact ⟨bs, h2, h3, h1, h7.symm⟩
  · rintro ⟨bs, h2, h3, h1, h7⟩; exact ⟨(), h1, bs, ⟨h2, h3⟩, h7.symm⟩

theorem verifyBody_eq_ok {s t : State} : verifyBody s = .ok t ↔
    exp8Clean s.a3 = true ∧ ∃ bs : List Byte, bs.length = s.a1.toNat ∧ HasBytes s s.a0.toNat bs ∧
      Fits s s.a0.toNat s.a1.toNat ∧ t = (s.setR0 (verifyFn bs (exp8Byte s.a3)).toNat).setR1 (checksumFn bs) := by
  simp only [verifyBody, cmd_bind_eq_ok, checkSrc_eq_ok, loadBytes_eq_ok, raiseIf_eq_ok, Except.ok.injEq,
    Bool.not_eq_false']
  constructor
  · rintro ⟨-, h0, -, h1, bs, ⟨h2, h3⟩, h7⟩; exact ⟨h0, bs, h2, h3, h1, h7.symm⟩
  · rintro ⟨h0, bs, h2, h3, h1, h7⟩; exact ⟨(), h0, (), h1, bs, ⟨h2, h3⟩, h7.symm⟩

theorem frameResetBody_eq_ok {s t : State} : frameResetBody s = .ok t ↔
    Fits s s.a0.toNat s.a1.toNat ∧
      t = { s with frameCur := s.a0, frameEnd := BitVec.ofNat 32 (s.a0.toNat + s.a1.toNat) }.setFlag .frameActive true := by
  simp only [frameResetBody, cmd_bind_eq_ok, checkSrc_eq_ok, Except.ok.injEq]
  constructor
  · rintro ⟨-, h1, h7⟩; exact ⟨h1, h7.symm⟩
  · rintro ⟨h1, h7⟩; exact ⟨(), h1, h7.symm⟩

theorem frameNextBody_eq_ok {s t : State} : frameNextBody s = .ok t ↔
    s.flag .frameActive = true ∧ ∃ r,
      frameScan s (s.frameEnd.toNat - s.frameCur.toNat) s.frameCur.toNat none 0 = .ok r ∧ t = s.takeScan r := by
  simp only [frameNextBody, cmd_bind_eq_ok, raiseIf_eq_ok, Except.ok.injEq, Bool.not_eq_false']
  constructor
  · rintro ⟨-, h0, r, h1, h7⟩; exact ⟨h0, r, h1, h7.symm⟩
  · rintro ⟨h0, r, h1, h7⟩; exact ⟨(), h0, r, h1, h7.symm⟩

theorem classifyBody_eq_ok {s t : State} : classifyBody s = .ok t ↔
    ∃ m : List Byte, m.length = s.a1.toNat ∧ HasBytes s s.a0.toNat m ∧ Fits s s.a0.toNat s.a1.toNat ∧
      t = (((s.setR0 (classifyFn s.params m).kind.code).setR1 (classifyFn s.params m).reason.code).setR2
        (classifyFn s.params m).dev).setR3 (classifyFn s.params m).typ := by
  simp only [classifyBody, cmd_bind_eq_ok, checkSrc_eq_ok, loadBytes_eq_ok, Except.ok.injEq]
  constructor
  · rintro ⟨-, h1, m, ⟨h2, h3⟩, h7⟩; exact ⟨m, h2, h3, h1, h7.symm⟩
  · rintro ⟨m, h2, h3, h1, h7⟩; exact ⟨(), h1, m, ⟨h2, h3⟩, h7.symm⟩

theorem decodeBulkBody_eq_ok {s t : State} : decodeBulkBody s = .ok t ↔
    s.csSpan ≠ 3#2 ∧ ∃ m : List Byte, m.length = s.a1.toNat ∧ HasBytes s s.a0.toNat m ∧
      Fits s s.a0.toNat s.a1.toNat ∧ (classifyFn s.params m).reason ≠ .unsupported ∧
      (classifyFn s.params m).kind = .bulkDump ∧ (firstNoncleanField m = none ∨ s.unpackStrict = false) ∧
      (unpackFn (slice m 9 (8 + (m.length - 11)))).length ≤ s.a4.toNat ∧
      Fits s s.a2.toNat (unpackFn (slice m 9 (8 + (m.length - 11)))).length ∧
      Apart s.a0.toNat m.length s.a2.toNat (unpackFn (slice m 9 (8 + (m.length - 11)))).length ∧
      t = (((((((s.storeBytes s.a2.toNat (unpackFn (slice m 9 (8 + (m.length - 11))))).setR0
        (unpackFn (slice m 9 (8 + (m.length - 11)))).length).setR1 (byteCount m)).setR2 (addressTriple m)).setR3
        (decodeReport (byteAt m (m.length - 2)) (checksumFn (decodeSpan s.csSpan m))
          (verifyFn (decodeSpan s.csSpan m) (byteAt m (m.length - 2))) (byteCount m == m.length - 11)
          (classifyFn s.params m).dev)).warnIf
        (!verifyFn (decodeSpan s.csSpan m) (byteAt m (m.length - 2))) .wCsBad).warnIf
        (byteCount m != m.length - 11) .wBcMismatch).warnIf (firstNoncleanField m).isSome .wNonclean := by
  simp only [decodeBulkBody, cmd_bind_eq_ok, checkSrc_eq_ok, checkDst_eq_ok, raiseIf_eq_ok, overlaps_eq_false,
    loadBytes_eq_ok, refuseNonclean_eq_ok, Except.ok.injEq, beq_eq_false_iff_ne, bne_eq_false_iff_eq]
  constructor
  · rintro ⟨-, h0, -, h1, m, ⟨h2, h3⟩, -, h4, -, h5, -, h6, -, ⟨h7, h8⟩, -, h9, h10⟩
    exact ⟨h0, m, h2, h3, h1, h4, h5, h6, h7, h8, h9, h10.symm⟩
  · rintro ⟨h0, m, h2, h3, h1, h4, h5, h6, h7, h8, h9, h10⟩
    exact ⟨(), h0, (), h1, m, ⟨h2, h3⟩, (), h4, (), h5, (), h6, (), ⟨h7, h8⟩, (), h9, h10.symm⟩

theorem encodeBulkBody_eq_ok {dev : BitVec 4} {s t : State} : encodeBulkBody dev s = .ok t ↔
    addr3Clean s.a3 = true ∧ s.a1.toNat ≤ Config.maxRawPayload ∧ ∃ raw : List Byte, raw.length = s.a1.toNat ∧
      HasBytes s s.a0.toNat raw ∧ Fits s s.a0.toNat s.a1.toNat ∧
      (bulkMessage s.params dev s.a3 raw).length ≤ s.a4.toNat ∧
      Fits s s.a2.toNat (bulkMessage s.params dev s.a3 raw).length ∧
      Apart s.a0.toNat s.a1.toNat s.a2.toNat (bulkMessage s.params dev s.a3 raw).length ∧
      t = (((s.storeBytes s.a2.toNat (bulkMessage s.params dev s.a3 raw)).setR0
        (bulkMessage s.params dev s.a3 raw).length).setR1 (packFn raw).length).setR2
        (checksumFn (bulkBody s.a3 (packFn raw))) := by
  simp only [encodeBulkBody, cmd_bind_eq_ok, checkSrc_eq_ok, checkDst_eq_ok, raiseIf_eq_ok, overlaps_eq_false,
    loadBytes_eq_ok, Except.ok.injEq, Bool.not_eq_false', decide_eq_false_iff_not, not_lt, gt_iff_lt]
  constructor
  · rintro ⟨-, h0, -, h1, -, h2, raw, ⟨h3, h4⟩, -, ⟨h5, h6⟩, -, h7, h8⟩
    exact ⟨h0, h1, raw, h3, h4, h2, h5, h6, h7, h8.symm⟩
  · rintro ⟨h0, h1, raw, h3, h4, h2, h5, h6, h7, h8⟩
    exact ⟨(), h0, (), h1, (), h2, raw, ⟨h3, h4⟩, (), ⟨h5, h6⟩, (), h7, h8.symm⟩

theorem encodeControlBody_eq_ok {dev : BitVec 4} {mark : Byte} {s t : State} : encodeControlBody dev mark s = .ok t ↔
    9 ≤ s.a4.toNat ∧ Fits s s.a2.toNat 9 ∧
      t = (s.storeBytes s.a2.toNat (controlMessage s.params dev mark)).setR0 9 := by
  simp only [encodeControlBody, cmd_bind_eq_ok, checkDst_eq_ok, Except.ok.injEq]
  constructor
  · rintro ⟨-, ⟨h1, h2⟩, h7⟩; exact ⟨h1, h2, h7.symm⟩
  · rintro ⟨h1, h2, h7⟩; exact ⟨(), ⟨h1, h2⟩, h7.symm⟩

theorem requireValid_eq_ok {v : Option Nat} {u : Unit} : requireValid v = .ok u ↔ v = none := by
  cases v <;> simp [requireValid, raise]

theorem requireValid_eq_error {v : Option Nat} {e : Stop} :
    requireValid v = .error e ↔ ∃ i, v = some i ∧ e = .raise .descriptorInvalid i := by
  cases v <;> simp [requireValid, raise, eq_comm]

theorem patOpenBody_eq_ok {s t : State} : patOpenBody s = .ok t ↔
    ∃ b : Bool, sizeVariant s.params s.a1.toNat = some b ∧ Fits s s.a0.toNat s.a1.toNat ∧
      (magicBytes s.params).length = 16 ∧ HasBytes s s.a0.toNat (magicBytes s.params) ∧
      validateFdt (s.bank b) s.a1.toNat = none ∧
      t = ((({ s with patBase := s.a0, patSize := s.a1 }.setFlag .patVariant b).setFlag .patOpen true).clearStage).setR0
        b.toNat := by
  have key : ∀ b, patOpenAs s b = .ok t ↔ Fits s s.a0.toNat s.a1.toNat ∧
      (magicBytes s.params).length = 16 ∧ HasBytes s s.a0.toNat (magicBytes s.params) ∧
      validateFdt (s.bank b) s.a1.toNat = none ∧
      t = ((({ s with patBase := s.a0, patSize := s.a1 }.setFlag .patVariant b).setFlag .patOpen true).clearStage).setR0
        b.toNat := by
    intro b
    simp only [patOpenAs, cmd_bind_eq_ok, checkSrc_eq_ok, raiseIf_eq_ok, loadBytes_eq_ok, requireValid_eq_ok,
      Except.ok.injEq, bne_eq_false_iff_eq]
    constructor
    · rintro ⟨-, h1, m, ⟨h2, h3⟩, -, rfl, -, h4, h5⟩; exact ⟨h1, h2, h3, h4, h5.symm⟩
    · rintro ⟨h1, h2, h3, h4, h5⟩; exact ⟨(), h1, _, ⟨h2, h3⟩, (), rfl, (), h4, h5.symm⟩
  unfold patOpenBody
  split
  · rename_i h; simp [h, raise]
  · rename_i b h; simp [h, key]

theorem getBytes_eq_ok {s t : State} {p n off : Nat} : getBytes s p n off = .ok t ↔
    n ≤ s.a4.toNat ∧ Fits s s.a2.toNat n ∧ Apart p n s.a2.toNat n ∧ ∃ v : List Byte, v.length = n ∧ HasBytes s p v ∧
      t = ((s.storeBytes s.a2.toNat v).setR0 n).setR1 off := by
  simp only [getBytes, cmd_bind_eq_ok, checkDst_eq_ok, raiseIf_eq_ok, overlaps_eq_false, loadBytes_eq_ok, Except.ok.injEq]
  constructor
  · rintro ⟨-, ⟨h1, h2⟩, -, h3, v, ⟨h4, h5⟩, h6⟩; exact ⟨h1, h2, h3, v, h4, h5, h6.symm⟩
  · rintro ⟨h1, h2, h3, v, h4, h5, h6⟩; exact ⟨(), ⟨h1, h2⟩, (), h3, v, ⟨h4, h5⟩, h6.symm⟩

theorem patGetBody_eq_ok {fid : BitVec 5} {s t : State} : patGetBody fid s = .ok t ↔
    s.flag .patOpen = true ∧ (s.entry fid).valid = true ∧ s.a3.toNat < (s.entry fid).count ∧
      (match (s.entry fid).typ with
        | .u8 => getU8 s
          (s.patBase.toNat + ((s.entry fid).start + s.a3.toNat * (s.entry fid).elemLen))
          ((s.entry fid).start + s.a3.toNat * (s.entry fid).elemLen)
        | .u16be => getU16 s
          (s.patBase.toNat + ((s.entry fid).start + s.a3.toNat * (s.entry fid).elemLen))
          ((s.entry fid).start + s.a3.toNat * (s.entry fid).elemLen)
        | .bytes | .reserved => getBytes s
          (s.patBase.toNat + ((s.entry fid).start + s.a3.toNat * (s.entry fid).elemLen)) (s.entry fid).elemLen
          ((s.entry fid).start + s.a3.toNat * (s.entry fid).elemLen)) = .ok t := by
  simp only [patGetBody, cmd_bind_eq_ok, requireOpen_eq_ok, elemSel_eq_ok]
  constructor
  · rintro ⟨-, h1, ⟨e, off⟩, ⟨h2, h3, h4⟩, h5⟩
    cases h4
    refine ⟨h1, h2, h3, ?_⟩
    cases h : (s.entry fid).typ <;> simpa [h] using h5
  · rintro ⟨h1, h2, h3, h5⟩
    refine ⟨(), h1, _, ⟨h2, h3, rfl⟩, ?_⟩
    cases h : (s.entry fid).typ <;> simpa [h] using h5

theorem patSectionEnabledBody_eq_ok {fid : BitVec 5} {s t : State} : patSectionEnabledBody fid s = .ok t ↔
    s.flag .patOpen = true ∧ (s.entry fid).valid = true ∧ (s.entry fid).typ = .u16be ∧
      s.a3.toNat < (s.entry fid).count ∧ ∃ p,
        loadU16 s (s.patBase.toNat + ((s.entry fid).start + s.a3.toNat * (s.entry fid).elemLen)) = .ok p ∧
        t = (s.setR0 (sectionEnabled p).toNat).setR1 p := by
  simp only [patSectionEnabledBody, cmd_bind_eq_ok, requireOpen_eq_ok, elemSel_eq_ok, raiseIf_eq_ok]
  constructor
  · rintro ⟨-, h1, -, h0, ⟨e, off⟩, ⟨h2, h3, h4⟩, h5⟩
    cases h4
    simp only [Except.ok.injEq] at h5
    obtain ⟨p, h5, h6⟩ := h5
    refine ⟨h1, h2, ?_, h3, p, h5, h6.symm⟩
    simpa [h2] using h0
  · rintro ⟨h1, h2, h0, h3, p, h5, h6⟩
    refine ⟨(), h1, (), by simp [h0], _, ⟨h2, h3, rfl⟩, ?_⟩
    simp only [Except.ok.injEq]
    exact ⟨p, h5, h6.symm⟩

theorem patWriteSafeBody_eq_ok {fid : BitVec 5} {s t : State} : patWriteSafeBody fid s = .ok t ↔
    s.flag .patOpen = true ∧ (s.entry fid).valid = true ∧ s.a3.toNat < (s.entry fid).count ∧
      (s.entry fid).cls ≠ .preserve ∧ ((s.entry fid).cls = .provisional → s.provEn = true) ∧
      Fits s s.a0.toNat (s.entry fid).elemLen ∧ ∃ v : List Byte, v.length = (s.entry fid).elemLen ∧
        HasBytes s s.a0.toNat v ∧
        t = ((s.stage ((s.entry fid).start + s.a3.toNat * (s.entry fid).elemLen) v).setR0
          ((s.entry fid).start + s.a3.toNat * (s.entry fid).elemLen)).setR1 (s.entry fid).elemLen := by
  simp only [patWriteSafeBody, cmd_bind_eq_ok, requireOpen_eq_ok, elemSel_eq_ok]
  constructor
  · rintro ⟨-, h1, ⟨e, off⟩, ⟨h2, h3, h4⟩, h5⟩
    cases h4
    simp only [raiseIf_eq_ok, checkSrc_eq_ok, loadBytes_eq_ok, Except.ok.injEq] at h5
    obtain ⟨-, h6, -, h7, -, h8, v, ⟨h9, h10⟩, h11⟩ := h5
    refine ⟨h1, h2, h3, by simpa using h6, ?_, h8, v, h9, h10, h11.symm⟩
    simpa using h7
  · rintro ⟨h1, h2, h3, h6, h7, h8, v, h9, h10, h11⟩
    refine ⟨(), h1, _, ⟨h2, h3, rfl⟩, ?_⟩
    simp only [raiseIf_eq_ok, checkSrc_eq_ok, loadBytes_eq_ok, Except.ok.injEq]
    exact ⟨(), by simpa using h6, (), by simpa using h7, (), h8, v, ⟨h9, h10⟩, h11.symm⟩

theorem patOverlayBody_eq_ok {s t : State} : patOverlayBody s = .ok t ↔
    s.flag .patOpen = true ∧ s.patSize.toNat ≤ s.a4.toNat ∧ Fits s s.a2.toNat s.patSize.toNat ∧
      (s.a2 = s.patBase ∨ Apart s.patBase.toNat s.patSize.toNat s.a2.toNat s.patSize.toNat) ∧
      ∃ out, overlayBytes s s.patSize.toNat 0 = .ok out ∧
        t = ((s.storeBytes s.a2.toNat out).setR0 s.patSize.toNat).setR1 (maskCount s s.patSize.toNat) := by
  simp only [patOverlayBody, cmd_bind_eq_ok, requireOpen_eq_ok, checkDst_eq_ok, raiseIf_eq_ok, Except.ok.injEq]
  have key : (s.a2 != s.patBase && overlaps s.patBase.toNat s.patSize.toNat s.a2.toNat s.patSize.toNat) = false ↔
      (s.a2 = s.patBase ∨ Apart s.patBase.toNat s.patSize.toNat s.a2.toNat s.patSize.toNat) := by
    rw [Bool.and_eq_false_iff, overlaps_eq_false, bne_eq_false_iff_eq]
  constructor
  · rintro ⟨-, h1, -, ⟨h2, h3⟩, -, h4, out, h5, h6⟩; exact ⟨h1, h2, h3, key.1 h4, out, h5, h6.symm⟩
  · rintro ⟨h1, h2, h3, h4, out, h5, h6⟩; exact ⟨(), h1, (), ⟨h2, h3⟩, (), key.2 h4, out, h5, h6.symm⟩

/-! ### Every command at once -/

/-- The body of each command, what exec commits. -/
def bodyOf (i : Instr) (s : State) : Cmd State :=
  match i with
  | .nop => .ok s
  | .pack => packBody s
  | .unpack => unpackBody s
  | .checksum => checksumBody s
  | .verify => verifyBody s
  | .frameReset => frameResetBody s
  | .frameNext => frameNextBody s
  | .classify => classifyBody s
  | .decodeBulk => decodeBulkBody s
  | .encodeBulk dev => encodeBulkBody dev s
  | .encodeInit dev => encodeControlBody dev 0x01#8 s
  | .encodeClose dev => encodeControlBody dev 0x00#8 s
  | .patOpen => patOpenBody s
  | .patGet fid => patGetBody fid s
  | .patSectionEnabled fid => patSectionEnabledBody fid s
  | .patWriteSafe fid => patWriteSafeBody fid s
  | .patOverlay => patOverlayBody s
  | .patClearStage => .ok s.clearStage
  | .patClose => .ok s.closePattern
  | .softReset => .ok s.softReset

theorem exec_eq_commit (i : Instr) (s : State) : exec i s = commit s (bodyOf i s) := by cases i <;> rfl

theorem frameScan_error {s : State} {n i : Nat} {run : Option Nat} {d : Nat} {e : Stop}
    (h : frameScan s n i run d = .error e) : ∃ f, e = .halt f := by
  induction n generalizing i run d with
  | zero => cases h
  | succ n ih =>
    rw [frameScan, cmd_bind_eq_error] at h
    rcases h with h | ⟨b, -, h⟩
    · exact loadByte_error h
    · split at h
      · exact ih h
      · split at h
        · split at h
          · cases h
          · exact ih h
        · exact ih h

/-- A command raises only the faults listed for it (60_exceptions R228). -/
theorem bodyOf_raise {i : Instr} {s : State} {c : FaultCode} {n : Nat} (h : bodyOf i s = .error (.raise c n)) :
    c ∈ faultsOf i := by
  have hl : ∀ {a m}, loadBytes s a m ≠ .error (.raise c n) := fun h => by have ⟨_, h⟩ := loadBytes_error h; cases h
  have hb : ∀ {a}, loadByte s a ≠ .error (.raise c n) := fun h => by have ⟨_, h⟩ := loadByte_error h; cases h
  have h16 : ∀ {a}, loadU16 s a ≠ .error (.raise c n) := fun h => by have ⟨_, h⟩ := loadU16_error h; cases h
  have hs : ∀ {m a r d}, frameScan s m a r d ≠ .error (.raise c n) := fun h => by have ⟨_, h⟩ := frameScan_error h; cases h
  have ho : ∀ {m a}, overlayBytes s m a ≠ .error (.raise c n) := fun h => by have ⟨_, h⟩ := overlayBytes_error h; cases h
  cases i with
  | patOpen =>
    have key : ∀ b, patOpenAs s b = .error (.raise c n) → c ∈ faultsOf .patOpen := by
      intro b h
      simp only [patOpenAs, cmd_bind_eq_error, checkSrc_eq_error, raiseIf_eq_error, requireValid_eq_error, hl,
        Stop.raise.injEq, reduceCtorEq, false_or, and_false, exists_const, or_false] at h
      rcases h with ⟨_, rfl, _⟩ | ⟨_, _, _, _, ⟨_, rfl, _⟩ | ⟨_, _, _, _, rfl, _⟩⟩ <;> simp [faultsOf]
    simp only [bodyOf, patOpenBody] at h
    split at h
    · cases h; simp [faultsOf]
    · exact key _ h
  | patGet fid =>
    have kb : ∀ p m off, getBytes s p m off = .error (.raise c n) → c ∈ faultsOf (.patGet fid) := by
      intro p m off h
      simp only [getBytes, cmd_bind_eq_error, checkDst_eq_error, raiseIf_eq_error, hl, Stop.raise.injEq, reduceCtorEq,
        and_false, exists_const, or_false] at h
      rcases h with (⟨_, rfl, _⟩ | ⟨_, _, rfl, _⟩) | ⟨_, _, _, rfl, _⟩ <;> simp [faultsOf]
    have k8 : ∀ p off, getU8 s p off ≠ .error (.raise c n) := by
      intro p off h
      simp [getU8, cmd_bind_eq_error, hb] at h
    have k16 : ∀ p off, getU16 s p off ≠ .error (.raise c n) := by
      intro p off h
      simp [getU16, cmd_bind_eq_error, h16] at h
    simp only [bodyOf, patGetBody, cmd_bind_eq_error, requireOpen_eq_error, elemSel_eq_error, Stop.raise.injEq] at h
    rcases h with ⟨_, rfl, _⟩ | ⟨_, _, (⟨_, rfl, _⟩ | ⟨_, _, rfl, _⟩) | ⟨e, _, h⟩⟩
    · simp [faultsOf]
    · simp [faultsOf]
    · simp [faultsOf]
    · split at h
      · exact absurd h (k8 _ _)
      · exact absurd h (k16 _ _)
      · exact kb _ _ _ h
      · exact kb _ _ _ h
  | _ =>
    simp only [bodyOf, packBody, unpackBody, checksumBody, verifyBody, frameResetBody, frameNextBody, classifyBody,
      decodeBulkBody, encodeBulkBody, encodeControlBody, patSectionEnabledBody, patWriteSafeBody,
      patOverlayBody, cmd_bind_eq_error, checkSrc_eq_error, checkDst_eq_error, raiseIf_eq_error, refuseNonclean_eq_error,
      requireOpen_eq_error, elemSel_eq_error, hl, h16, hs, ho, Stop.raise.injEq, reduceCtorEq, false_or, and_false,
      exists_const, or_false] at h <;>
    · simp only [faultsOf, List.mem_cons, List.not_mem_nil, or_false]
      grind

end Sys2Proof.Machine
end

