-- ==== Sys2Proof/Laws/PerInstr.lean ====
section
/-! SUPPORT. What holds of every command as syntax, one lemma per constructor. -/

namespace Sys2Proof.Laws

/-- The command's word matches a row of the opcode table, so its OP is assigned and its reserved bits are 0 (30_encoding R84). -/
def EncodeLegal.Statement (i : Instr) : Prop := commandLegal (encode i) = true

theorem EncodeLegal.nop : EncodeLegal.Statement .nop := by unfold EncodeLegal.Statement; decide
theorem EncodeLegal.pack : EncodeLegal.Statement .pack := by unfold EncodeLegal.Statement; decide
theorem EncodeLegal.unpack : EncodeLegal.Statement .unpack := by unfold EncodeLegal.Statement; decide
theorem EncodeLegal.checksum : EncodeLegal.Statement .checksum := by unfold EncodeLegal.Statement; decide
theorem EncodeLegal.verify : EncodeLegal.Statement .verify := by unfold EncodeLegal.Statement; decide
theorem EncodeLegal.frameReset : EncodeLegal.Statement .frameReset := by unfold EncodeLegal.Statement; decide
theorem EncodeLegal.frameNext : EncodeLegal.Statement .frameNext := by unfold EncodeLegal.Statement; decide
theorem EncodeLegal.classify : EncodeLegal.Statement .classify := by unfold EncodeLegal.Statement; decide
theorem EncodeLegal.decodeBulk : EncodeLegal.Statement .decodeBulk := by unfold EncodeLegal.Statement; decide
theorem EncodeLegal.encodeBulk : ∀ dev, EncodeLegal.Statement (.encodeBulk dev) := by
  unfold EncodeLegal.Statement; decide
theorem EncodeLegal.encodeInit : ∀ dev, EncodeLegal.Statement (.encodeInit dev) := by
  unfold EncodeLegal.Statement; decide
theorem EncodeLegal.encodeClose : ∀ dev, EncodeLegal.Statement (.encodeClose dev) := by
  unfold EncodeLegal.Statement; decide
theorem EncodeLegal.patOpen : EncodeLegal.Statement .patOpen := by unfold EncodeLegal.Statement; decide
theorem EncodeLegal.patGet : ∀ fid, EncodeLegal.Statement (.patGet fid) := by
  unfold EncodeLegal.Statement; decide
theorem EncodeLegal.patSectionEnabled : ∀ fid, EncodeLegal.Statement (.patSectionEnabled fid) := by
  unfold EncodeLegal.Statement; decide
theorem EncodeLegal.patWriteSafe : ∀ fid, EncodeLegal.Statement (.patWriteSafe fid) := by
  unfold EncodeLegal.Statement; decide
theorem EncodeLegal.patOverlay : EncodeLegal.Statement .patOverlay := by unfold EncodeLegal.Statement; decide
theorem EncodeLegal.patClearStage : EncodeLegal.Statement .patClearStage := by unfold EncodeLegal.Statement; decide
theorem EncodeLegal.patClose : EncodeLegal.Statement .patClose := by unfold EncodeLegal.Statement; decide
theorem EncodeLegal.softReset : EncodeLegal.Statement .softReset := by unfold EncodeLegal.Statement; decide

end Sys2Proof.Laws
end

