-- ==== Sys2Proof/Machine/Script.lean ====
section
/-! DEFINITION. The host-script lines and pseudo-instructions of 30_encoding R91 and R92, as functions to lists of host
transactions. -/

namespace Sys2Proof.Machine

/-- `mw ADDR, B0, B1, ...`: one HOST_MEM_WRITE per byte (30_encoding R91). -/
def mwLine (a : Nat) (bs : List Byte) : List HostTxn := bs.mapIdx fun i b => .memWrite (a + i) b

/-- `mr ADDR, N`: one HOST_MEM_READ per byte (30_encoding R91). -/
def mrLine (a n : Nat) : List HostTxn := (List.range n).map fun i => .memRead (a + i)

/-- `cw REG, IMM32` (30_encoding R91). -/
def cwLine (c : Csr) (v : Word) : List HostTxn := [.csrWrite (csrOffset c) v]

/-- `cr REG` (30_encoding R91). -/
def crLine (c : Csr) : List HostTxn := [.csrRead (csrOffset c)]

/-- `MNEMONIC`, `MNEMONIC dev=N`, `MNEMONIC fid=N`: a `cw CMD` of the encoded word (30_encoding R91). -/
def commandLine (i : Instr) : List HostTxn := cwLine .cmd (encode i)

/-- `pack src, len, dst, cap` (30_encoding R92). -/
def packLines (src len dst cap : Word) : List HostTxn :=
  cwLine .a0 src ++ cwLine .a1 len ++ cwLine .a2 dst ++ cwLine .a4 cap ++ commandLine .pack

/-- `unpack src, len, dst, cap` (30_encoding R92). -/
def unpackLines (src len dst cap : Word) : List HostTxn :=
  cwLine .a0 src ++ cwLine .a1 len ++ cwLine .a2 dst ++ cwLine .a4 cap ++ commandLine .unpack

/-- `checksum src, len` (30_encoding R92). -/
def checksumLines (src len : Word) : List HostTxn := cwLine .a0 src ++ cwLine .a1 len ++ commandLine .checksum

/-- `verify src, len, exp` (30_encoding R92). -/
def verifyLines (src len exp : Word) : List HostTxn :=
  cwLine .a0 src ++ cwLine .a1 len ++ cwLine .a3 exp ++ commandLine .verify

/-- `frame src, len` (30_encoding R92). -/
def frameLines (src len : Word) : List HostTxn := cwLine .a0 src ++ cwLine .a1 len ++ commandLine .frameReset

/-- `next` (30_encoding R92). -/
def nextLines : List HostTxn := commandLine .frameNext

/-- `classify msg, len` (30_encoding R92). -/
def classifyLines (msg len : Word) : List HostTxn := cwLine .a0 msg ++ cwLine .a1 len ++ commandLine .classify

/-- `decode msg, len, dst, cap` (30_encoding R92). -/
def decodeLines (msg len dst cap : Word) : List HostTxn :=
  cwLine .a0 msg ++ cwLine .a1 len ++ cwLine .a2 dst ++ cwLine .a4 cap ++ commandLine .decodeBulk

/-- `encode dev, ah, am, al, src, len, dst, cap` (30_encoding R92). -/
def encodeLines (dev : BitVec 4) (ah am al src len dst cap : Word) : List HostTxn :=
  cwLine .a0 src ++ cwLine .a1 len ++ cwLine .a2 dst ++ cwLine .a3 ((ah <<< 16) ||| (am <<< 8) ||| al)
    ++ cwLine .a4 cap ++ commandLine (.encodeBulk dev)

/-- `init dev, dst, cap` (30_encoding R92). -/
def initLines (dev : BitVec 4) (dst cap : Word) : List HostTxn :=
  cwLine .a2 dst ++ cwLine .a4 cap ++ commandLine (.encodeInit dev)

/-- `close dev, dst, cap` (30_encoding R92). -/
def closeLines (dev : BitVec 4) (dst cap : Word) : List HostTxn :=
  cwLine .a2 dst ++ cwLine .a4 cap ++ commandLine (.encodeClose dev)

/-- `open buf, len` (30_encoding R92). -/
def openLines (buf len : Word) : List HostTxn := cwLine .a0 buf ++ cwLine .a1 len ++ commandLine .patOpen

/-- `get fid, idx` (30_encoding R92). -/
def getLines (fid : BitVec 5) (idx : Word) : List HostTxn := cwLine .a3 idx ++ commandLine (.patGet fid)

/-- `get fid, idx, dst, cap` (30_encoding R92). -/
def getBytesLines (fid : BitVec 5) (idx dst cap : Word) : List HostTxn :=
  cwLine .a2 dst ++ cwLine .a3 idx ++ cwLine .a4 cap ++ commandLine (.patGet fid)

/-- `enabled fid, idx` (30_encoding R92). -/
def enabledLines (fid : BitVec 5) (idx : Word) : List HostTxn :=
  cwLine .a3 idx ++ commandLine (.patSectionEnabled fid)

/-- `put fid, idx, src` (30_encoding R92). -/
def putLines (fid : BitVec 5) (idx src : Word) : List HostTxn :=
  cwLine .a0 src ++ cwLine .a3 idx ++ commandLine (.patWriteSafe fid)

/-- `overlay dst, cap` (30_encoding R92). -/
def overlayLines (dst cap : Word) : List HostTxn := cwLine .a2 dst ++ cwLine .a4 cap ++ commandLine .patOverlay

/-- `fdt bank, e, start, elen, count, class, type` (30_encoding R92). -/
def fdtLines (bank : Bool) (e : BitVec 5) (start elen count cls typ : Word) : List HostTxn :=
  cwLine (.fdtWord0 bank e) ((elen <<< 16) ||| start)
    ++ cwLine (.fdtWord1 bank e) (0x80000000#32 ||| (typ <<< 18) ||| (cls <<< 16) ||| count)

end Sys2Proof.Machine
end

