-- ==== Sys2Proof/Tests/Slice0.lean ====
section
/-! SUPPORT. The model's own tests: decoding of words written out from the encoding tables, ill-formed terms that the checks
refuse, one step of each command with the result 95_test_vectors gives, and for every statement with hypotheses a concrete
state that meets them. -/

namespace Sys2Proof.Tests

open Sys2Proof.Machine

/-! ### Small states -/

/-- The parameters of 95_test_vectors, with its configuration T. -/
def testParams : Params where
  memBytes := 65536
  mfrId := 0x43#7
  modelId := 0x5F#7
  sizeSmall := 64
  sizeLarge := 128
  magic := #v[0x51, 0x59, 0x43, 0x4F, 0x44, 0x45, 0x43, 0x2D, 0x54, 0x45, 0x53, 0x54, 0x50, 0x41, 0x54, 0x31]

/-- A block right after reset, with those parameters. -/
def fresh : State := State.resetWith testParams

/-- The block with `bs` in MEM at `a`, nothing else in MEM. -/
def holding (a : Nat) (bs : List Byte) (s : State) : State := { s with mem := bs.mapIdx fun i b => (a + i, b) }

/-- The block with A0 to A4 set. -/
def withArgs (a0 a1 a2 a3 a4 : Nat) (s : State) : State :=
  { s with
    a0 := BitVec.ofNat 32 a0, a1 := BitVec.ofNat 32 a1, a2 := BitVec.ofNat 32 a2, a3 := BitVec.ofNat 32 a3,
    a4 := BitVec.ofNat 32 a4 }

/-- The block whose host is about to perform `t`. -/
def sending (t : HostTxn) (s : State) : State := { s with script := [t], pc := 0 }

/-- What `f` reads from the next state, if there is one. -/
def after {α : Type} (o : Host.Outcome State Fault Refusal) (f : State → α) : Option α :=
  match o with
  | .next t => some (f t)
  | .fault _ => none
  | .refused _ => none

/-- The bytes at `a`, as far as they are written. -/
def bytesAt (s : State) (a n : Nat) : List (Option Byte) := (List.range n).map fun i => s.peek (a + i)

/-- The answer is a next state that meets `p`. -/
def nextWith (o : Host.Outcome State Fault Refusal) (p : State → Bool) : Bool := (after o p).getD false

theorem nextWith_iff {o : Host.Outcome State Fault Refusal} {p : State → Bool} :
    nextWith o p = true ↔ ∃ t, o = .next t ∧ p t = true := by
  cases o <;> simp [nextWith, after]

/-- V5.1's message (95_test_vectors). -/
def dump : List Byte := [0xF0, 0x43, 0x00, 0x5F, 0x00, 0x03, 0x02, 0x7E, 0x00, 0x20, 0x04, 0x30, 0x29, 0xF7]

/-- FDT bank 0 of configuration T. -/
def bankT : FdtBank :=
  ((((Vector.replicate 32 ⟨0#32, 0#32⟩).set 2 ⟨0x00020010#32, 0x80080002#32⟩).set 4 ⟨0x00020014#32, 0x80090001#32⟩).set 12
    ⟨0x000A0016#32, 0x80010001#32⟩).set 15 ⟨0x00200020#32, 0x80000001#32⟩

/-- The magic of configuration T. -/
def magicT : List Byte :=
  [0x51, 0x59, 0x43, 0x4F, 0x44, 0x45, 0x43, 0x2D, 0x54, 0x45, 0x53, 0x54, 0x50, 0x41, 0x54, 0x31]

/-- The template of configuration T. -/
def templateT : List Byte :=
  magicT ++ [0x00, 0x10, 0xFE, 0xFE, 0x04, 0xB0] ++ [0x54, 0x45, 0x53, 0x54, 0x20, 0x20, 0x20, 0x20, 0x20, 0x20]
    ++ List.replicate 32 0x40

/-- The template at 0x400 and its table in bank 0, not yet opened. -/
def loadedT : State := { holding 0x400 templateT fresh with fdt0 := bankT, a0 := 0x400#32, a1 := 64#32 }

/-- The same, opened. -/
def openT : State := { loadedT with patBase := 0x400#32, patSize := 64#32, status := 0x00010000#32 }

/-- The same, with the new tempo 1300 staged at offsets 20 and 21. -/
def stagedT : State := { openT with ovl := [(20, 0x05#8), (21, 0x14#8)], mask := [20, 21] }

/-! ### Decoding -/

theorem test_decode_control : decode 0b00000000000000000000000000000000#32 = .ok .nop ∧
    decode 0b00000000000000000000000000111111#32 = .ok .softReset := by decide

theorem test_decode_bitpack : decode 0b00000000000000000000000000000001#32 = .ok .pack ∧
    decode 0b00000000000000000000000000000010#32 = .ok .unpack := by decide

theorem test_decode_checksum : decode 0b00000000000000000000000000000011#32 = .ok .checksum ∧
    decode 0b00000000000000000000000000000100#32 = .ok .verify := by decide

theorem test_decode_sysex : decode 0b00000000000000000000000000010000#32 = .ok .frameReset ∧
    decode 0b00000000000000000000000000010001#32 = .ok .frameNext ∧
    decode 0b00000000000000000000000000010010#32 = .ok .classify ∧
    decode 0b00000000000000000000000000010011#32 = .ok .decodeBulk ∧
    decode 0b00000000000000000000010100010100#32 = .ok (.encodeBulk 5#4) ∧
    decode 0b00000000000000000000001100010101#32 = .ok (.encodeInit 3#4) ∧
    decode 0b00000000000000000000100000010110#32 = .ok (.encodeClose 8#4) := by decide

theorem test_decode_pattern : decode 0b00000000000000000000000000100000#32 = .ok .patOpen ∧
    decode 0b00000000000011000000000000100001#32 = .ok (.patGet 12#5) ∧
    decode 0b00000000000000100000000000100010#32 = .ok (.patSectionEnabled 2#5) ∧
    decode 0b00000000000100000000000000100011#32 = .ok (.patWriteSafe 16#5) ∧
    decode 0b00000000000000000000000000100100#32 = .ok .patOverlay ∧
    decode 0b00000000000000000000000000100101#32 = .ok .patClearStage ∧
    decode 0b00000000000000000000000000100110#32 = .ok .patClose := by decide

theorem test_decode_refuses_unassigned : decode 0x00000005#32 = .error (.unassignedOpcode 0x05#8) ∧
    decode 0x00000040#32 = .error (.unassignedOpcode 0x40#8) := by decide

theorem test_decode_refuses_reserved : decode 0x00000101#32 = .error (.reservedBitSet 0x00000101#32) ∧
    decode 0x00001014#32 = .error (.reservedBitSet 0x00001014#32) ∧
    decode 0x00200021#32 = .error (.reservedBitSet 0x00200021#32) ∧
    decode 0x00000121#32 = .error (.reservedBitSet 0x00000121#32) := by decide

/-! ### Ill-formed terms -/

theorem test_ill_unassigned_opcode : commandLegal 0x00000005#32 = false ∧ commandLegal 0x000000FF#32 = false := by decide
theorem test_ill_reserved_bit_C0 : commandLegal 0x80000001#32 = false ∧ commandLegal 0x00000101#32 = false := by decide
theorem test_ill_reserved_bit_CD : commandLegal 0x00001014#32 = false ∧ commandLegal 0x80000015#32 = false := by decide
theorem test_ill_reserved_bit_CF : commandLegal 0x00200021#32 = false ∧ commandLegal 0x00008022#32 = false := by decide
theorem test_well_formed_params : testParams.wellFormed = true := by decide
theorem test_ill_memory_too_small : ({ testParams with memBytes := 65535 } : Params).wellFormed = false := by decide
theorem test_ill_memory_too_large : ({ testParams with memBytes := 2 ^ 31 + 1 } : Params).wellFormed = false := by decide
theorem test_ill_small_below_17 : ({ testParams with sizeSmall := 16 } : Params).wellFormed = false := by decide
theorem test_ill_sizes_not_ordered : ({ testParams with sizeLarge := 64 } : Params).wellFormed = false := by decide
theorem test_ill_large_over_65536 : ({ testParams with sizeLarge := 65537 } : Params).wellFormed = false := by decide

/-! ### The host bus -/

/-- 95_test_vectors program 4, steps 6 and 7. -/
theorem test_illegal_command : after (step (fresh.withFetchWord 32 5)) (fun t => (t.err, t.errInfo, t.status, t.cmd)) =
    some (0x00000510#32, 5#32, 0x00000006#32, 5#32) := by decide

/-- 10_state R20: offset 0x080 is unmapped; MAGIC0 of configuration T holds its first four bytes (R36). -/
theorem test_csr_reads : after (step (sending (.csrRead 0x080) fresh)) (fun t => (t.rdata, t.status)) =
      some (0#32, 0x00001000#32) ∧
    after (step (sending (.csrRead 0x070) fresh)) (fun t => (t.rdata, t.status)) = some (0x5159434F#32, 0#32) := by
  decide

/-- 60_exceptions R225. -/
theorem test_unwritten_byte_stops : step (sending (.memRead 0x10) fresh) = .fault (.uninitRead 0x10) := by rfl

/-- 30_encoding R91, R92: the lines of a script are the transactions written out. -/
theorem test_script_lines : packLines 0x10 8 0x40 16 =
    [.csrWrite 0x020 0x10, .csrWrite 0x024 8, .csrWrite 0x028 0x40, .csrWrite 0x030 16, .csrWrite 0x000 1] := by decide

/-! ### One step of each command -/

theorem test_nop_keeps_err_info : after (step { fresh.withFetchWord 32 0 with
      status := 0x00000006#32, err := 0x00000510#32, errInfo := 5#32 }) (fun t => (t.status, t.err, t.errInfo)) =
    some (0x00000004#32, 0#32, 5#32) := by decide

/-- V1.10. -/
theorem test_pack : after (exec .pack (withArgs 0 8 0x1000 0 0x100
      (holding 0 [0x12, 0x34, 0x56, 0x78, 0x9A, 0xBC, 0xDE, 0xF0] fresh))) (fun t => (t.r0, bytesAt t 0x1000 10)) =
    some (10#32, [0x07, 0x12, 0x34, 0x56, 0x78, 0x1A, 0x3C, 0x5E, 0x40, 0x70].map some) := by decide

/-- V1.14. -/
theorem test_pack_capacity : after (step { withArgs 0 3 0x1000 0 3 (holding 0 [1, 2, 3] fresh) with
      script := [.csrWrite 0 1] }) (fun t => (t.err, t.errInfo, bytesAt t 0x1000 1)) =
    some (0x00000113#32, 4#32, [none]) := by decide

/-- V2.7. -/
theorem test_unpack : after (exec .unpack (withArgs 0 9 0x1000 0 0x100
      (holding 0 [0x7F, 0x01, 0x02, 0x03, 0x04, 0x05, 0x06, 0x07, 0x55] fresh)))
      (fun t => (t.r0, t.status, bytesAt t 0x1000 8)) =
    some (7#32, 0#32, [0x81, 0x82, 0x83, 0x84, 0x85, 0x86, 0x87].map some ++ [none]) := by decide

/-- V2.10. -/
theorem test_unpack_strict : after (step { withArgs 0 2 0x1000 0 0x100 (holding 0 [0x00, 0x81] fresh) with
      ctrl := 0x0000000C#32, script := [.csrWrite 0 2] }) (fun t => (t.err, t.errInfo, t.status)) =
    some (0x00000219#32, 1#32, 0x00000006#32) := by decide

/-- V3.6 and V3.8. -/
theorem test_checksum : after (exec .checksum (withArgs 0 8 0 0 0
        (holding 0 [0x00, 0x03, 0x02, 0x7E, 0x00, 0x20, 0x04, 0x30] fresh))) State.r0 = some 0x29#32 ∧
    after (exec .checksum (withArgs 0 1 0 0 0 (holding 0 [0xFF] fresh))) State.r0 = some 0x01#32 := by decide

/-- V3.10 and V3.11. -/
theorem test_verify : after (exec .verify (withArgs 0 8 0 0x28 0
        (holding 0 [0x00, 0x03, 0x02, 0x7E, 0x00, 0x20, 0x04, 0x30] fresh))) (fun t => (t.r0, t.r1)) = some (0#32, 0x29#32) ∧
    after (exec .verify (withArgs 0 8 0 0xA9 0
        (holding 0 [0x00, 0x03, 0x02, 0x7E, 0x00, 0x20, 0x04, 0x30] fresh))) State.r0 = some 1#32 := by decide

/-- V4.9. -/
theorem test_frame_reset_bounds : after (exec .frameReset (withArgs 0xFFF0 0x20 0 0 0 fresh))
    (fun t => (t.errInfo, t.status)) = some (0xFFF0#32, 0x00000006#32) := by decide

/-- V4.1, the first call. -/
theorem test_frame_next : after (exec .frameNext { holding 0x200 [0xF0, 0x01, 0xF0, 0x02, 0xF7] fresh with
      frameCur := 0x200#32, frameEnd := 0x205#32, status := 0x00040000#32 })
      (fun t => (t.r0, t.r1, t.r2, t.r3, t.frameCur, t.status)) =
    some (1#32, 0x202#32, 3#32, 1#32, 0x205#32, 0x00040200#32) := by decide

/-- V4.7. -/
theorem test_frame_next_end : after (exec .frameNext { holding 0x200 [0xF0, 0x01, 0xF0, 0x02, 0xF0, 0x03] fresh with
      frameCur := 0x200#32, frameEnd := 0x206#32, status := 0x00040000#32 })
      (fun t => (t.r0, t.r1, t.r2, t.r3, t.frameCur, t.status)) =
    some (0#32, 0#32, 0#32, 3#32, 0x206#32, 0x00040200#32) := by decide

/-- V4.11 and V4.23. -/
theorem test_classify : after (exec .classify (withArgs 0 9 0 0 0
        (holding 0 [0xF0, 0x43, 0x10, 0x5F, 0x00, 0x00, 0x00, 0x00, 0xF7] fresh))) (fun t => (t.r0, t.r1, t.r2, t.r3)) =
      some (4#32, 0#32, 0#32, 1#32) ∧
    after (exec .classify (withArgs 0 6 0 0 0 (holding 0 [0xF0, 0x43, 0x85, 0x5F, 0x00, 0xF7] fresh)))
      (fun t => (t.r0, t.r1, t.r2, t.r3)) = some (0#32, 3#32, 5#32, 8#32) := by decide

/-- V5.2. -/
theorem test_decode_bulk : after (exec .decodeBulk (withArgs 0x1000 14 0x2000 0 0x10 (holding 0x1000 dump fresh)))
      (fun t => ([t.r0, t.r1, t.r2, t.r3, t.status], bytesAt t 0x2000 2)) =
    some ([2#32, 3#32, 0x00027E00#32, 0x00032929#32, 0#32], [some 0x04#8, some 0xB0#8]) := by decide

/-- V5.3. -/
theorem test_decode_bulk_span : after (exec .decodeBulk { withArgs 0x1000 14 0x2000 0 0x10 (holding 0x1000 dump fresh) with
      ctrl := 0x00000005#32 }) (fun t => (t.r3, t.status)) = some (0x00022C29#32, 0x00000800#32) := by decide

/-- V5.8. -/
theorem test_encode_bulk : after (exec (.encodeBulk 3#4) (withArgs 0 8 0x1000 0x00080000 0x40
      (holding 0 [0x80, 0x81, 0x82, 0x83, 0x84, 0x85, 0x86, 0x87] fresh)))
      (fun t => (t.r0, t.r1, t.r2, bytesAt t 0x1000 21)) =
    some (21#32, 10#32, 0x13#32, [0xF0, 0x43, 0x03, 0x5F, 0x00, 0x0A, 0x08, 0x00, 0x00, 0x7F, 0x00, 0x01, 0x02, 0x03, 0x04,
      0x05, 0x06, 0x40, 0x07, 0x13, 0xF7].map some) := by decide

/-- V5.14. -/
theorem test_encode_bulk_reserved_a3 : after (exec (.encodeBulk 0#4) (withArgs 0 2 0x1000 0x00800000 0x40 fresh))
    (fun t => (t.flag .err, t.errInfo)) = some (true, 0x00800000#32) := by decide

/-- E5. -/
theorem test_encode_init : after (exec (.encodeInit 3#4) (withArgs 0 0 0x300 0 16 fresh))
      (fun t => (t.r0, bytesAt t 0x300 9)) =
    some (9#32, [0xF0, 0x43, 0x13, 0x5F, 0x00, 0x00, 0x00, 0x01, 0xF7].map some) := by decide

/-- Program 4, step 3. -/
theorem test_encode_close : after (exec (.encodeClose 3#4) (withArgs 0 0 0x310 0 16 fresh))
      (fun t => (t.r0, bytesAt t 0x310 9)) =
    some (9#32, [0xF0, 0x43, 0x13, 0x5F, 0x00, 0x00, 0x00, 0x00, 0xF7].map some) := by decide

/-- V6.1. -/
theorem test_pat_open : after (exec .patOpen loadedT) (fun t => (t.r0, t.status, t.patBase, t.patSize)) =
    some (0#32, 0x00010000#32, 0x400#32, 64#32) := by decide

/-- V6.2 and V6.3. -/
theorem test_pat_get : after (exec (.patGet 4#5) openT) (fun t => (t.r0, t.r1)) = some (1200#32, 20#32) ∧
    after (exec (.patGet 12#5) (withArgs 0 0 0x700 0 16 openT)) (fun t => (t.r0, t.r1, bytesAt t 0x700 10)) =
      some (10#32, 22#32, [0x54, 0x45, 0x53, 0x54, 0x20, 0x20, 0x20, 0x20, 0x20, 0x20].map some) := by decide

/-- V6.4. -/
theorem test_pat_section_enabled : after (exec (.patSectionEnabled 2#5) (withArgs 0 0 0 1 0 openT)) (fun t => (t.r0, t.r1)) =
      some (0#32, 0xFEFE#32) ∧
    after (exec (.patSectionEnabled 2#5) openT) (fun t => (t.r0, t.r1)) = some (1#32, 0x0010#32) := by decide

/-- Program 3, step 5. -/
theorem test_pat_write_safe : after (exec (.patWriteSafe 4#5) (withArgs 0x500 0 0 0 0 (openT.storeBytes 0x500 [0x05, 0x14])))
      (fun t => (t.r0, t.r1, t.mask, t.ovl)) = some (20#32, 2#32, [20, 21], [(20, 0x05#8), (21, 0x14#8)]) := by decide

/-- V6.9. -/
theorem test_pat_write_safe_refused : after (step { openT with script := [.csrWrite 0 0x00020023] })
    (fun t => (t.err, t.errInfo, t.mask)) = some (0x00002307#32, 0#32, []) := by decide

/-- Program 3, step 7. -/
theorem test_pat_overlay : after (exec .patOverlay (withArgs 0 0 0x600 0 64 stagedT))
      (fun t => (t.r0, t.r1, bytesAt t 0x610 6)) =
    some (64#32, 2#32, [0x00, 0x10, 0xFE, 0xFE, 0x05, 0x14].map some) := by decide +kernel

theorem test_pat_clear_stage : after (exec .patClearStage stagedT) (fun t => (t.mask, t.status)) =
    some ([], 0x00010000#32) := by decide

theorem test_pat_close : after (exec .patClose stagedT) (fun t => (t.mask, t.status, t.patBase)) =
    some ([], 0#32, 0x400#32) := by decide

theorem test_soft_reset : after (step { stagedT with script := [.csrWrite 0 0x3F] })
      (fun t => (t.status, t.patSize, t.fdt0 == Vector.replicate 32 ⟨0#32, 0#32⟩, t.cmd, t.peek 0x414)) =
    some (0#32, 0#32, true, 0x3F#32, some 0x04#8) := by decide

/-! ### Statements' hypotheses met

One theorem for each statement with hypotheses, in the order of the statements: what it assumes, at a concrete state. -/

theorem witness_DecodeOfEncode : (Instr.encodeBulk 15#4).wellFormed = true ∧ (Instr.patGet 31#5).wellFormed = true := by decide

theorem witness_EncodeOfDecode : decode 0x001F0023#32 = .ok (.patWriteSafe 31#5) := by decide

theorem witness_StepRunsDecodedCommand : (fresh.withFetchWord 32 0x314).nextCommand = some 0x314#32 ∧
    (fresh.withFetchWord 32 0x314).flag .busy = false ∧ decode 0x314#32 = .ok (.encodeBulk 3#4) ∧
    (Instr.encodeBulk 3#4).wellFormed = true ∧ 0xFFFFFFFF < 2 ^ 32 := by decide

theorem witness_IllegalWordFaults : (fresh.withFetchWord 32 0x121).nextCommand = some 0x121#32 ∧
    (fresh.withFetchWord 32 0x121).flag .busy = false ∧ commandLegal 0x121#32 = false := by decide

/-- Written, unwritten and beyond the end; the last address written, and the first beyond the end. -/
theorem witness_HostMemoryAccess : (sending (.memRead 0x10) (holding 0x10 [0xAB] fresh)).peek 0x10 = some 0xAB#8 ∧
    (sending (.memRead 0x10) fresh).flag .busy = false ∧
    (sending (.memRead 65535) fresh).nextTxn = some (.memRead 65535) ∧ 65535 < fresh.params.memBytes ∧
    (sending (.memRead 65535) fresh).peek 65535 = none ∧ fresh.params.memBytes ≤ 65536 ∧
    (sending (.memRead 65536) fresh).nextTxn = some (.memRead 65536) ∧
    (sending (.memWrite 65535 1#8) fresh).nextTxn = some (.memWrite 65535 1#8) ∧
    (sending (.memWrite 65536 1#8) fresh).nextTxn = some (.memWrite 65536 1#8) := by decide

theorem witness_CsrAccessOffTheMap : fresh.flag .busy = false ∧
    (∀ off ∈ [0x001, 0x033, 0x034, 0x03C, 0x068, 0x06C, 0x080, 0x0FC, 0x300],
      (off % 4 ≠ 0 ∨ 0x300 ≤ off ∨ (0x080 ≤ off ∧ off < 0x100) ∨ off ∈ [0x034, 0x038, 0x03C, 0x068, 0x06C]) ∧
      (sending (.csrRead off) fresh).nextTxn = some (.csrRead off) ∧
      (sending (.csrWrite off 1#32) fresh).nextTxn = some (.csrWrite off 1#32)) := by decide

theorem witness_CsrMapIsOneToOne : csrAt 0x000 = some .cmd ∧ csrAt 0x2FC = some (.fdtWord1 true 31#5) := by decide

theorem witness_CsrReadsReturnRegisters : ∀ off ∈ [0x000, 0x004, 0x008, 0x00C, 0x010, 0x014, 0x018, 0x01C, 0x020, 0x024,
      0x028, 0x02C, 0x030, 0x040, 0x044, 0x048, 0x04C, 0x050, 0x054, 0x058, 0x05C, 0x060, 0x064, 0x070, 0x07C, 0x100, 0x1FC,
      0x200, 0x2FC],
    (sending (.csrRead off) fresh).flag .busy = false ∧ (sending (.csrRead off) fresh).nextTxn = some (.csrRead off) := by
  decide

theorem witness_HostRegisterWrites : ∀ off ∈ [0x010, 0x020, 0x024, 0x028, 0x02C, 0x030, 0x008, 0x07C],
    (sending (.csrWrite off 0xFFFFFFFF#32) fresh).flag .busy = false ∧
    (sending (.csrWrite off 0xFFFFFFFF#32) fresh).nextTxn = some (.csrWrite off 0xFFFFFFFF#32) := by decide

/-- A STATUS write, a command that meets a set warning, and SOFT_RESET. -/
theorem witness_StatusWritesAndWarnings :
    (sending (.csrWrite 0x004 4#32) fresh).nextTxn = some (.csrWrite 0x004 4#32) ∧
    (∃ t, exec .pack { fresh with status := 0x00001100#32 } = .next t ∧
      (State.flag { fresh with status := 0x00001100#32 } .wNonclean && t.flag .wNonclean) = true) ∧
    ∃ t, exec .softReset fresh = .next t ∧ (!t.flag .wBusErr) = true :=
  ⟨by decide, nextWith_iff.1 (by decide), nextWith_iff.1 (by decide)⟩

/-- First and last word of a bank, with that bank's pattern open and with the other's. -/
theorem witness_FdtWriteClosesPatternInUse :
    (sending (.csrWrite (0x100 + 0x100 * false.toNat + 8 * (0 : Fin 32).val + 4 * false.toNat) 0#32) openT).nextTxn =
      some (.csrWrite 0x100 0#32) ∧
    (sending (.csrWrite (0x100 + 0x100 * true.toNat + 8 * (31 : Fin 32).val + 4 * true.toNat) 0#32) openT).nextTxn =
      some (.csrWrite 0x2FC 0#32) ∧
    openT.flag .busy = false ∧ (openT.flag .patOpen = true ∧ openT.flag .patVariant = false) ∧
    ¬(openT.flag .patOpen = true ∧ openT.flag .patVariant = true) := by decide

theorem witness_IdleAndBusySteps : fresh.nextTxn = none ∧
    State.flag { fresh with status := 1#32 } .busy = true ∧
    (∀ t ∈ [HostTxn.csrRead 0x004, .csrRead 0x000, .memRead 0, .csrWrite 0x000 1#32, .memWrite 0 0#8],
      (sending t { fresh with status := 1#32 }).nextTxn = some t) ∧ csrAt 0x000 ≠ some .status := by decide

theorem witness_FaultEntryRecords : ∃ t, step (fresh.withFetchWord 32 0x11) = .next t ∧
    (decide ((fresh.withFetchWord 32 0x11).nextCommand = some 0x11#32) && !(fresh.withFetchWord 32 0x11).flag .busy
      && !t.flag .busy) = true :=
  nextWith_iff.1 (by decide)

theorem witness_FaultingCommandChangesOnlyFaultRegisters : ∃ t, exec .frameNext fresh = .next t ∧
    (!fresh.flag .err && t.flag .err) = true :=
  nextWith_iff.1 (by decide)

/-- A command that faults, and one that does not. -/
theorem witness_ErrorRegistersDescribeLastCommand :
    (∃ t, step (fresh.withFetchWord 32 0x11) = .next t ∧ t.flag .err = true) ∧
    (∃ t, step (fresh.withFetchWord 32 0x01) = .next t ∧ (!t.flag .err) = true) ∧ decode 0x01#32 ≠ .ok .softReset :=
  ⟨nextWith_iff.1 (by decide), nextWith_iff.1 (by decide), by decide⟩

theorem witness_CommandsLeaveHostRegisters : ∃ t, exec .patOpen loadedT = .next t ∧
    (decide (Instr.patOpen ≠ .softReset) && t.flag .patOpen) = true :=
  nextWith_iff.1 (by decide)

/-- A command that is no framer command, at a state with a stream set up. -/
theorem witness_FramerStateChangesOnlyThroughItsCommands :
    (∃ t, step (State.withFetchWord { fresh with status := 0x00040000#32, frameEnd := 5#32 } 32 0x01) = .next t ∧
      (t.flag .frameActive && decide (t.frameEnd = 5#32)) = true) ∧
    decode 0x01#32 ≠ .ok .frameReset ∧ decode 0x01#32 ≠ .ok .frameNext ∧ decode 0x01#32 ≠ .ok .softReset :=
  ⟨nextWith_iff.1 (by decide), by decide⟩

theorem witness_OnlyWritersChangeMemory :
    (∃ t, step (State.withFetchWord loadedT 32 0x20) = .next t ∧ t.flag .patOpen = true) ∧
    (State.withFetchWord loadedT 32 0x20).nextTxn = some (.csrWrite 0 0x20#32) ∧
    (State.withFetchWord loadedT 32 0x20).nextCommand = some 0x20#32 ∧ decode 0x20#32 = .ok .patOpen ∧
    writesMemory .patOpen = false :=
  ⟨nextWith_iff.1 (by decide), by decide⟩

/-- An open pattern with two bytes staged meets every invariant, and its block goes on. -/
theorem witness_Invariant : Invariant stagedT := by decide

theorem witness_StepKeepsMemoryCanonical : MemoryCanonical stagedT ∧
    ∃ t, step (sending (.memWrite 0x410 7#8) stagedT) = .next t ∧ decide (t.peek 0x410 = some 7#8) = true :=
  ⟨witness_Invariant.2.1, nextWith_iff.1 (by decide)⟩

theorem witness_StepKeepsReservedBitsClear : ReservedBitsClear stagedT ∧
    ∃ t, step (sending (.csrWrite 0x010 0xFFFFFFFF#32) stagedT) = .next t ∧ decide (t.ctrl = 0x0000000F#32) = true :=
  ⟨witness_Invariant.2.2.1, nextWith_iff.1 (by decide)⟩

theorem witness_StepKeepsFramerOrdered :
    FramerOrdered { fresh with status := 0x00040000#32, frameCur := 5#32, frameEnd := 65536#32 } ∧
    fresh.params.wellFormed = true ∧
    ∃ t, step (State.withFetchWord { fresh with a0 := 65535#32, a1 := 1#32 } 32 0x10) = .next t ∧
      (t.flag .frameActive && decide (t.frameEnd = 65536#32)) = true :=
  ⟨by decide, by decide, nextWith_iff.1 (by decide)⟩

theorem witness_StepKeepsOpenPatternValid : OpenPatternValid stagedT ∧ stagedT.flag .patOpen = true ∧
    ∃ t, step (sending (.csrWrite 0x200 1#32) stagedT) = .next t ∧ t.flag .patOpen = true :=
  ⟨witness_Invariant.2.2.2.2.1, by decide, nextWith_iff.1 (by decide)⟩

theorem witness_StepKeepsStageDisciplined : StageDisciplined stagedT ∧ stagedT.mask ≠ [] ∧
    ∃ t, step (sending (.csrWrite 0x120 1#32) stagedT) = .next t ∧ decide (t.mask = []) = true :=
  ⟨witness_Invariant.2.2.2.2.2, by decide, nextWith_iff.1 (by decide)⟩

/-- A full group and a partial one: byte 6 of group 0 is there, byte 1 of group 1 is not. -/
theorem witness_PackedBitPositions : 7 * 0 < [0, 0, 0, 0, 0, 0, 0x80, 0xFF].length ∧
    7 * 1 < [0, 0, 0, 0, 0, 0, 0x80, 0xFF].length ∧
    ([0, 0, 0, 0, 0, 0, 0x80, 0xFF] : List Byte)[7 * 0 + 6]? = some 0x80#8 ∧
    ([0, 0, 0, 0, 0, 0, 0x80, 0xFF] : List Byte)[7 * 1 + 1]? = none := by decide

/-- A canonical sequence and one with a stray header bit (V2.13). -/
theorem witness_PackUnpackLaws : packFn (unpackFn [0x40, 0x00]) = [0x40, 0x00] ∧
    packFn (unpackFn [0x3F, 0x05]) ≠ [0x3F, 0x05] ∧ ([0x3F, 0x05] : List Byte)[8 * (2 / 8)]? = some 0x3F#8 := by decide

theorem witness_ChecksumLaws : (0x29#8 : Byte).toNat = checksumFn [0x00, 0x03, 0x02, 0x7E, 0x00, 0x20, 0x04, 0x30] ∧
    ([0x00, 0x03] : List Byte)[1]? = some 0x03#8 := by decide

/-- V1.18: the destination ends at the last byte of MEM; and an empty source. -/
theorem witness_PackCompletes :
    (let s := withArgs 0 7 0xFFF8 0 8 (holding 0 [1, 2, 3, 4, 5, 6, 7] fresh)
     [1, 2, 3, 4, 5, 6, 7].length = s.a1.toNat ∧ HasBytes s s.a0.toNat [1, 2, 3, 4, 5, 6, 7] ∧
      packedLen 7 ≤ s.a4.toNat ∧ Fits s s.a2.toNat (packedLen 7) ∧ Apart s.a0.toNat 7 s.a2.toNat (packedLen 7)) ∧
    (let s := withArgs 0xFFFF 0 0xFFFF 0 0 fresh
     ([] : List Byte).length = s.a1.toNat ∧ HasBytes s s.a0.toNat [] ∧ packedLen 0 ≤ s.a4.toNat ∧
      Fits s s.a2.toNat (packedLen 0) ∧ Apart s.a0.toNat 0 s.a2.toNat (packedLen 0)) := by decide

/-- A byte that is not 7-bit clean, with strict mode off; and a clean one with strict mode on. -/
theorem witness_UnpackCompletes :
    (let s := withArgs 0 2 0xFFFF 0 1 (holding 0 [0x80, 0x01] fresh)
     [0x80, 0x01].length = s.a1.toNat ∧ HasBytes s s.a0.toNat [0x80, 0x01] ∧ s.ctrl.getLsbD 3 = false ∧
      unpackedLen 2 ≤ s.a4.toNat ∧ Fits s s.a2.toNat (unpackedLen 2) ∧ Apart s.a0.toNat 2 s.a2.toNat (unpackedLen 2)) ∧
    ∀ b ∈ ([0x40, 0x00] : List Byte), b.getLsbD 7 = false := by decide

/-- V1.15, V1.14, V1.18, V1.17, V2.10, V2.11. -/
theorem witness_PackAndUnpackFaults : ¬Fits (withArgs 0xFFFF 2 0 0 0 fresh) 0xFFFF 2 ∧
    (let s := withArgs 0 3 0xFFFD 0 3 (holding 0 [1, 2, 3] fresh)
     [1, 2, 3].length = s.a1.toNat ∧ HasBytes s s.a0.toNat [1, 2, 3] ∧ s.a4.toNat < packedLen 3 ∧
      packedLen 3 ≤ 4 ∧ ¬Fits s s.a2.toNat (packedLen 3)) ∧
    (Fits fresh 2 (packedLen 3) ∧ ¬Apart 0 3 2 (packedLen 3)) ∧
    (let s := { withArgs 0 2 0 0 0 (holding 0 [0x00, 0x81] fresh) with ctrl := 0x0000000C#32 }
     [0x00, 0x81].length = s.a1.toNat ∧ HasBytes s s.a0.toNat [0x00, 0x81] ∧ s.ctrl.getLsbD 3 = true ∧
      ([0x00, 0x81] : List Byte)[1]? = some 0x81#8 ∧ (0x81#8).getLsbD 7 = true ∧
      ∀ j, j < 1 → ∀ b, ([0x00, 0x81] : List Byte)[j]? = some b → b.getLsbD 7 = false) ∧
    (let s := withArgs 0 2 0 0 0 (holding 0 [0x40, 0x00] fresh)
     HasBytes s s.a0.toNat [0x40, 0x00] ∧ s.a4.toNat < unpackedLen 2 ∧ unpackedLen 2 ≤ 1 ∧
      ¬Fits s 65536 (unpackedLen 2) ∧ Fits s 1 (unpackedLen 2) ∧ ¬Apart s.a0.toNat 2 1 (unpackedLen 2)) := by
  refine ⟨by decide, by decide, by decide, ⟨by decide, by decide, by decide, by decide, by decide, ?_⟩, by decide⟩
  intro j hj b hb
  obtain rfl : j = 0 := by omega
  cases hb
  decide

theorem witness_ChecksumCompletes :
    (let s := withArgs 0xFFFF 1 0 0 0 (holding 0xFFFF [0xFF] fresh)
     [0xFF].length = s.a1.toNat ∧ HasBytes s s.a0.toNat [0xFF]) := by decide

/-- An expected byte of 0xFF, and the first value that sets a reserved bit. -/
theorem witness_VerifyCompletes :
    (let s := withArgs 0 1 0 0xFF 0 (holding 0 [0xFF] fresh)
     [0xFF].length = s.a1.toNat ∧ HasBytes s s.a0.toNat [0xFF] ∧ s.a3.toNat < 256) ∧
    256 ≤ (withArgs 0 0 0 0x100 0 fresh).a3.toNat := by decide

/-- A range one byte too long, and a range that ends at the last byte of MEM, whose first byte alone is written. -/
theorem witness_SourceRangeFaults :
    (let s := withArgs 0xFFFF 2 0 0 0 fresh
     ¬Fits s s.a0.toNat s.a1.toNat ∧ s.a3.toNat < 256) ∧
    (let s := withArgs 0xFFFE 2 0 0 0 (holding 0xFFFE [0x00] fresh)
     Fits s s.a0.toNat s.a1.toNat ∧ s.a0.toNat ≤ 0xFFFF ∧ 0xFFFF < s.a0.toNat + s.a1.toNat ∧ s.peek 0xFFFF = none ∧
      (∀ b, s.a0.toNat ≤ b → b < 0xFFFF → s.peek b ≠ none) ∧ s.a3.toNat < 256 ∧ s.ctrl.extractLsb' 0 2 ≠ 3#2 ∧
      s.a3 &&& 0xFF808080#32 = 0#32 ∧ s.a1.toNat ≤ 14335) := by
  refine ⟨by decide, by decide, by decide, by decide, by decide, ?_, by decide, by decide, by decide, by decide⟩
  intro b h1 h2
  have h1' : 0xFFFE ≤ b := h1
  obtain rfl : b = 0xFFFE := by omega
  decide

theorem witness_FrameResetCompletes :
    (let s := withArgs 0xFFFF 1 0 0 0 fresh
     Fits s s.a0.toNat s.a1.toNat) := by decide

/-- V4.1's first call; junk alone (V4.2); no stream. -/
theorem witness_FrameNextCompletes :
    (let s := { holding 0x200 [0xF0, 0x01, 0xF0, 0x02, 0xF7] fresh with
        frameCur := 0x200#32, frameEnd := 0x205#32, status := 0x00040000#32 }
     s.flag .frameActive = true ∧ startByte ∉ ([] : List Byte) ∧ endByte ∉ ([0xF0, 0x01] : List Byte) ∧ Plain [0x02] ∧
      HasBytes s s.frameCur.toNat ([] ++ [0xF0, 0x01] ++ wrap [0x02]) ∧
      s.frameCur.toNat + ([] ++ [0xF0, 0x01] ++ wrap [0x02]).length ≤ s.frameEnd.toNat) ∧
    (let s := { holding 0x200 [0xF7, 0xF0, 0x05] fresh with
        frameCur := 0x200#32, frameEnd := 0x203#32, status := 0x00040000#32 }
     s.flag .frameActive = true ∧ startByte ∉ ([0xF7] : List Byte) ∧ endByte ∉ ([0xF0, 0x05] : List Byte) ∧
      HasBytes s s.frameCur.toNat ([0xF7] ++ [0xF0, 0x05]) ∧
      s.frameCur.toNat + ([0xF7] ++ [0xF0, 0x05] : List Byte).length = s.frameEnd.toNat) ∧
    fresh.flag .frameActive = false := by decide

/-- V4.4: two messages with junk before, between and after them. -/
theorem witness_FramerYieldsExactlyTheMessages :
    (let s := { holding 0x200 [0x11, 0xF0, 0x43, 0xF7, 0x22, 0xF7, 0xF0, 0x44, 0xF7, 0x33] fresh with
        frameCur := 0x200#32, frameEnd := 0x20A#32, status := 0x00040000#32 }
     let ms : List (List Byte × List Byte) := [([0x11], [0x43]), ([0x22, 0xF7], [0x44])]
     s.flag .frameActive = true ∧ (∀ m ∈ ms, Junk m.1 ∧ Plain m.2) ∧ Junk [0x33] ∧
      HasBytes s s.frameCur.toNat (streamOf ms [0x33]) ∧
      s.frameCur.toNat + (streamOf ms [0x33]).length = s.frameEnd.toNat) := by
  refine ⟨by decide, ?_, ⟨[0x33], [], by decide⟩, by decide, by decide⟩
  intro m hm
  simp only [List.mem_cons, List.not_mem_nil, or_false] at hm
  rcases hm with rfl | rfl
  · exact ⟨⟨[0x11], [], by decide⟩, by decide⟩
  · exact ⟨⟨[0x22, 0xF7], [], by decide⟩, by decide⟩

theorem witness_ClassifyCompletes :
    (let s := withArgs 0x1000 14 0 0 0 (holding 0x1000 dump fresh)
     dump.length = s.a1.toNat ∧ HasBytes s s.a0.toNat dump) := by decide

/-- Each kind and each reason occurs. -/
theorem witness_ClassifiedKinds :
    (classifyFn testParams dump).kind = .bulkDump ∧
    (classifyFn testParams (controlMessage testParams 0#4 0x01#8)).kind = .paramInit ∧
    (classifyFn testParams (controlMessage testParams 15#4 0x00#8)).kind = .paramClose ∧
    (classifyFn testParams (controlMessage testParams 0#4 0x02#8)).kind = .paramChange ∧
    (classifyFn testParams [0xF0, 0x43, 0x20, 0x5F, 0x02, 0x7E, 0x00, 0xF7]).kind = .dumpRequest ∧
    (classifyFn testParams [0xF0, 0x41, 0x10, 0x42, 0x00, 0x00, 0x00, 0x01, 0xF7]).reason = .unsupported ∧
    (classifyFn testParams [0xF0, 0x43, 0x30, 0x5F, 0x00, 0xF7]).reason = .unknownType ∧
    classifyFn testParams [0xF0, 0xF7] = ⟨.unknown, .malformed, 0, 0⟩ := by decide

/-- V5.1's message, with dev = 0 and payload 20 04 30; each span that CTRL can select; strict mode off. -/
theorem witness_DecodeBulkCompletes :
    dump = [0xF0#8, testParams.mfrId.setWidth 8, (0#4).setWidth 8, testParams.modelId.setWidth 8]
      ++ [0x00, 0x03, 0x02, 0x7E, 0x00] ++ [0x20, 0x04, 0x30] ++ [0x29, 0xF7#8] ∧
    (let s := withArgs 0x1000 14 0x2000 0 2 (holding 0x1000 dump fresh)
     dump.length = s.a1.toNat ∧ HasBytes s s.a0.toNat dump ∧ s.ctrl.getLsbD 3 = false ∧
      unpackedLen 3 ≤ s.a4.toNat ∧ Fits s s.a2.toNat (unpackedLen 3) ∧
      Apart s.a0.toNat dump.length s.a2.toNat (unpackedLen 3)) ∧
    ([0x00, 0x03, 0x02, 0x7E, 0x00] ++ [0x20, 0x04, 0x30] ++ [0x29#8]).any (fun b => b.getLsbD 7) = false ∧
    State.csSpan fresh ≠ 3#2 ∧ State.csSpan { fresh with ctrl := 0x6#32 } ≠ 3#2 := by decide

/-- V5.5, a source range off the end, V5.9, V5.10, V5.13, and the three destination faults. -/
theorem witness_DecodeBulkFaults :
    State.csSpan { fresh with ctrl := 0x7#32 } = 3#2 ∧ fresh.csSpan ≠ 3#2 ∧
    ¬Fits (withArgs 65535 2 0 0 0 fresh) 65535 2 ∧
    (classifyFn testParams [0xF0, 0x41, 0x00, 0x5F, 0x00, 0xF7]).reason = .unsupported ∧
    ((classifyFn testParams [0xF0, 0x43, 0x00, 0x5F, 0x00, 0xF7]).reason ≠ .unsupported ∧
      (classifyFn testParams [0xF0, 0x43, 0x00, 0x5F, 0x00, 0xF7]).kind ≠ .bulkDump) ∧
    (let m : List Byte := [0xF0, 0x43, 0x00, 0x5F, 0x80, 0x03, 0x02, 0x7E, 0x00, 0x00, 0xF7]
     (classifyFn testParams m).kind = .bulkDump ∧ 4 + 2 ≤ m.length ∧ m[4]? = some 0x80#8 ∧ (0x80#8).getLsbD 7 = true) ∧
    (let s := withArgs 0x1000 14 0x1004 0 1 (holding 0x1000 dump fresh)
     dump.length = s.a1.toNat ∧ HasBytes s s.a0.toNat dump ∧ (classifyFn s.params dump).kind = .bulkDump ∧
      s.ctrl.getLsbD 3 = false ∧ s.a4.toNat < unpackedLen (dump.length - 11) ∧
      unpackedLen (dump.length - 11) ≤ 2 ∧ ¬Fits s 65535 2 ∧ Fits s s.a2.toNat 2 ∧
      ¬Apart s.a0.toNat dump.length s.a2.toNat 2) := by decide

/-- V5.1. -/
theorem witness_EncodeBulkCompletes :
    (let s := withArgs 0 2 0x1000 0x00027E00 14 (holding 0 [0x04, 0xB0] fresh)
     s.a3 = 0#9 ++ 0x02#7 ++ 0#1 ++ 0x7E#7 ++ 0#1 ++ 0x00#7 ∧ [0x04, 0xB0].length = s.a1.toNat ∧
      HasBytes s s.a0.toNat [0x04, 0xB0] ∧ 2 ≤ 14335 ∧ packedLen 2 + 11 ≤ s.a4.toNat ∧
      Fits s s.a2.toNat (packedLen 2 + 11) ∧ Apart s.a0.toNat 2 s.a2.toNat (packedLen 2 + 11)) := by decide

theorem witness_EncodeControlCompletes :
    (let s := withArgs 0 0 65527 0 9 fresh
     9 ≤ s.a4.toNat ∧ Fits s s.a2.toNat 9) ∧
    (withArgs 0 0 0 0 8 fresh).a4.toNat < 9 ∧
    (let s := withArgs 0 0 65528 0 9 fresh
     9 ≤ s.a4.toNat ∧ ¬Fits s s.a2.toNat 9) := by decide

/-- V5.14, V5.15, V5.16, and the ranges. -/
theorem witness_EncodeBulkFaults :
    (withArgs 0 0 0 0x00800000 0 fresh).a3 &&& 0xFF808080#32 ≠ 0#32 ∧ fresh.a3 &&& 0xFF808080#32 = 0#32 ∧
    14335 < (withArgs 0 14336 0 0 0 fresh).a1.toNat ∧
    ¬Fits (withArgs 65535 2 0 0 0 fresh) 65535 2 ∧
    (let s := withArgs 0 2 1 0x00027E00 13 (holding 0 [0x04, 0xB0] fresh)
     [0x04, 0xB0].length = s.a1.toNat ∧ HasBytes s s.a0.toNat [0x04, 0xB0] ∧ s.a4.toNat < packedLen 2 + 11 ∧
      packedLen 2 + 11 ≤ 14 ∧ ¬Fits s 65535 14 ∧ Fits s s.a2.toNat 14 ∧ ¬Apart s.a0.toNat 2 s.a2.toNat 14) := by decide

/-- V5.1 and V5.2. -/
theorem witness_DecodeBulkInvertsEncodeBulk :
    (let s := withArgs 0 2 0x1000 0x00027E00 14 (holding 0 [0x04, 0xB0] fresh)
     s.flag .err = false ∧
      (∃ t, exec (.encodeBulk 0#4) s = .next t ∧
        (!t.flag .err && decide (Apart s.a2.toNat t.r0.toNat 0x2000 2)) = true) ∧
      [0x04, 0xB0].length = s.a1.toNat ∧ HasBytes s s.a0.toNat [0x04, 0xB0] ∧
      (0x0000000C#32).extractLsb' 0 2 = 0#2 ∧ 2 ≤ (2#32).toNat ∧ Fits s (0x2000#32).toNat 2) :=
  ⟨by decide, nextWith_iff.1 (by decide), by decide⟩

/-- Configuration T is valid; V6.10's entry 13 fails V6; an entry of no bytes fails V1; lengths over the size fail V7. -/
theorem witness_FdtValidation : validateFdt bankT 64 = none ∧
    validateFdt (bankT.set 13 ⟨0x00010030#32, 0x80060001#32⟩) 64 = some 13 ∧
    validateFdt (bankT.set 0 ⟨0x00000010#32, 0x80010001#32⟩) 64 = some 0 ∧
    validateFdt (bankT.set 31 ⟨0x00200020#32, 0x80000001#32⟩) 64 = some 32 := by decide

theorem witness_PatOpenCompletes : loadedT.params.sizeSmall < loadedT.params.sizeLarge ∧
    loadedT.a1.toNat = loadedT.params.sizeSmall ∧ Fits loadedT loadedT.a0.toNat loadedT.a1.toNat ∧
    (∀ i : Fin 16, loadedT.peek (loadedT.a0.toNat + i.val) = some (loadedT.params.magic[i].setWidth 8)) ∧
    validateFdt (loadedT.bank false) loadedT.a1.toNat = none := by decide

/-- A length of neither size; a range off the end; another header; the table of V6.10. -/
theorem witness_PatOpenFaults :
    ((withArgs 0 65 0 0 0 fresh).a1.toNat ≠ 64 ∧ (withArgs 0 65 0 0 0 fresh).a1.toNat ≠ 128) ∧
    ¬Fits (withArgs 65473 64 0 0 0 fresh) 65473 64 ∧
    (let s := withArgs 0x400 64 0 0 0 (holding 0x400 (0x52 :: templateT.tail) fresh)
     Fits s s.a0.toNat s.a1.toNat ∧ HasBytes s s.a0.toNat (0x52 :: magicT.tail) ∧ (0x52 :: magicT.tail).length = 16 ∧
      (0x52 :: magicT.tail) ≠ s.params.magic.toList.map (fun x => x.setWidth 8)) ∧
    (magicT = loadedT.params.magic.toList.map (fun x => x.setWidth 8) ∧ HasBytes loadedT loadedT.a0.toNat magicT) ∧
    validateFdt (bankT.set 13 ⟨0x00010030#32, 0x80060001#32⟩) 64 = some 13 := by decide

/-- U16BE field 4, BYTES field 12, and the same table with field 4 made a U8 field. -/
theorem witness_PatGetCompletes :
    (let e := (if openT.flag .patVariant then openT.fdt1 else openT.fdt0)[(4#5).toFin]
     openT.flag .patOpen = true ∧ e.valid = true ∧ openT.a3.toNat < e.count ∧ e.typ = .u16be ∧
      openT.peek (openT.patBase.toNat + (e.start + openT.a3.toNat * e.elemLen)) = some 0x04#8 ∧
      openT.peek (openT.patBase.toNat + (e.start + openT.a3.toNat * e.elemLen) + 1) = some 0xB0#8) ∧
    (let s := withArgs 0 0 0x700 0 10 openT
     let e := (if s.flag .patVariant then s.fdt1 else s.fdt0)[(12#5).toFin]
     e.valid = true ∧ e.typ = .bytes ∧ s.a3.toNat < e.count ∧
      HasBytes s (s.patBase.toNat + (e.start + s.a3.toNat * e.elemLen))
        [0x54, 0x45, 0x53, 0x54, 0x20, 0x20, 0x20, 0x20, 0x20, 0x20] ∧
      e.elemLen ≤ s.a4.toNat ∧ Fits s s.a2.toNat e.elemLen ∧
      Apart (s.patBase.toNat + (e.start + s.a3.toNat * e.elemLen)) e.elemLen s.a2.toNat e.elemLen) ∧
    (⟨0x00010014#32, 0x80050002#32⟩ : FdtEntry).typ = .u8 ∧ (⟨0x00010014#32, 0x80050002#32⟩ : FdtEntry).valid = true := by
  decide

theorem witness_PatSectionEnabledCompletes :
    (let s := withArgs 0 0 0 1 0 openT
     let e := (if s.flag .patVariant then s.fdt1 else s.fdt0)[(2#5).toFin]
     s.flag .patOpen = true ∧ e.valid = true ∧ e.typ = .u16be ∧ s.a3.toNat < e.count ∧
      s.peek (s.patBase.toNat + (e.start + s.a3.toNat * e.elemLen)) = some 0xFE#8 ∧
      s.peek (s.patBase.toNat + (e.start + s.a3.toNat * e.elemLen) + 1) = some 0xFE#8) := by decide

/-- A SAFE field, and a PROVISIONAL one (V6.10) with PROV_EN set as it is after reset. -/
theorem witness_PatWriteSafeCompletes :
    (let s := withArgs 0x410 0 0 0 0 openT
     let e := (if s.flag .patVariant then s.fdt1 else s.fdt0)[(4#5).toFin]
     s.flag .patOpen = true ∧ e.valid = true ∧ s.a3.toNat < e.count ∧ e.cls = .safe ∧
      [0x00, 0x10].length = e.elemLen ∧ HasBytes s s.a0.toNat [0x00, 0x10]) ∧
    (⟨0x00010030#32, 0x80060001#32⟩ : FdtEntry).cls = .provisional ∧ openT.ctrl.getLsbD 2 = true := by decide

/-- The overlay written apart from its template, and exactly over it. -/
theorem witness_PatOverlayCompletes :
    (let s := withArgs 0 0 0x600 0 64 stagedT
     let out := (templateT.set 20 0x05#8).set 21 0x14#8
     s.flag .patOpen = true ∧ out.length = s.patSize.toNat ∧
      (∀ i, i < out.length →
        out[i]? = if s.masked i then some (s.ovlByte i) else s.peek (s.patBase.toNat + i)) ∧
      out.length ≤ s.a4.toNat ∧ Fits s s.a2.toNat out.length ∧
      Apart s.patBase.toNat out.length s.a2.toNat out.length) ∧
    (withArgs 0 0 0x400 0 64 stagedT).a2 = stagedT.patBase := by decide +kernel

/-- A PAT_OVERLAY of the two staged bytes, as dispatch leaves its state (BUSY = 1), and as a step. -/
theorem witness_OverlayKeepsPreservedBytes :
    (let s := (withArgs 0 0 0x600 0 64 stagedT).beginCommand 0x24#32
     s.flag .busy = true ∧ OpenPatternValid s ∧ StageDisciplined s ∧
      ∃ t, exec .patOverlay s = .next t ∧ (!t.flag .err) = true) ∧
    (let s := sending (.csrWrite 0 0x24#32) (withArgs 0 0 0x600 0 64 stagedT)
     Invariant s ∧ s.nextCommand = some 0x24#32 ∧ decode 0x24#32 = .ok .patOverlay ∧
      ∃ t, step s = .next t ∧ (!t.flag .err) = true) :=
  ⟨⟨by decide, by decide, by decide, nextWith_iff.1 (by decide +kernel)⟩,
    ⟨by decide, by decide, by decide, nextWith_iff.1 (by decide +kernel)⟩⟩

/-- Nothing open; an entry that is not VALID; BYTES where U16BE is asked for; an index out of range; each refused class. -/
theorem witness_PatternFieldFaults : fresh.flag .patOpen = false ∧ openT.flag .patOpen = true ∧
    (openT.entry 5#5).valid = false ∧ ((openT.entry 12#5).valid = true ∧ (openT.entry 12#5).typ ≠ .u16be) ∧
    ((openT.entry 4#5).valid = true ∧ (openT.entry 4#5).count ≤ (withArgs 0 0 0 1 0 openT).a3.toNat) ∧
    ((openT.entry 2#5).cls = .preserve ∧ openT.a3.toNat < (openT.entry 2#5).count) ∧
    ((⟨0x00010030#32, 0x80060001#32⟩ : FdtEntry).cls = .provisional ∧
      State.provEn { openT with ctrl := 0#32 } = false) ∧
    ((openT.entry 4#5).cls = .safe ∧ ¬Fits openT 65535 (openT.entry 4#5).elemLen) ∧
    (let s := withArgs 65536 0 0 0 0 { openT with fdt0 := bankT.set 13 ⟨0x00010030#32, 0x80060001#32⟩ }
     (s.entry 13#5).valid = true ∧ s.a3.toNat < (s.entry 13#5).count ∧
      ((s.entry 13#5).cls = .provisional ∧ s.ctrl.getLsbD 2 = true) ∧ ¬Fits s s.a0.toNat (s.entry 13#5).elemLen) := by
  decide

/-- V6.11 and the other destination faults of PAT_OVERLAY, and those of PAT_GET on field 12. -/
theorem witness_PatternDestinationFaults : openT.flag .patOpen = true ∧
    (let e := (if openT.flag .patVariant then openT.fdt1 else openT.fdt0)[(12#5).toFin]
     e.valid = true ∧ e.typ = .bytes ∧ openT.a3.toNat < e.count ∧ 9 < e.elemLen ∧ e.elemLen ≤ 10 ∧
      ¬Fits openT 65527 e.elemLen ∧ Fits openT 0x41F e.elemLen ∧ ¬Apart 0x416 e.elemLen 0x41F e.elemLen) ∧
    (63 < openT.patSize.toNat ∧ openT.patSize.toNat ≤ 64 ∧ ¬Fits openT 65473 openT.patSize.toNat ∧
      Fits openT 0x420 openT.patSize.toNat ∧ 0x420#32 ≠ openT.patBase ∧
      ¬Apart openT.patBase.toNat openT.patSize.toNat 0x420 openT.patSize.toNat) := by decide

theorem witness_NopOnlyClearsErr : (fresh.withFetchWord 32 0).nextCommand = some 0x00000000#32 ∧
    (fresh.withFetchWord 32 0).flag .busy = false := by decide

end Sys2Proof.Tests
end

section
/-! Proofs for 00_scope: the source range of a command (R13), and the invariants at power-on reset (R6). -/

namespace Sys2Proof.Machine

/-! ### The end of a command that stops or raises -/

theorem commit_halt {s : State} {b : Cmd State} {f : Fault} (h : b = .error (.halt f)) : commit s b = .fault f := by
  subst h; rfl

theorem exec_of_body_raise {i : Instr} {s : State} {c : FaultCode} {n : Nat} (h : bodyOf i s = .error (.raise c n)) :
    exec i s = .next (s.raiseFault c n) :=
  (exec_eq_commit i s).trans (commit_raise h)

theorem exec_of_body_halt {i : Instr} {s : State} {f : Fault} (h : bodyOf i s = .error (.halt f)) :
    exec i s = .fault f :=
  (exec_eq_commit i s).trans (commit_halt h)

/-! ### Unwritten bytes (60_exceptions R225) -/

/-- Address `x` is the first byte of the `n` bytes from `a` that nothing has written. -/
def FirstUnwritten (s : State) (a n x : Nat) : Prop :=
  a ≤ x ∧ x < a + n ∧ s.peek x = none ∧ ∀ b, a ≤ b → b < x → s.peek b ≠ none

/-- When the range begins with a written byte, its first unwritten byte is that of the rest. -/
theorem FirstUnwritten.tail {s : State} {a n x : Nat} (h : FirstUnwritten s a (n + 1) x) (hne : a ≠ x) :
    FirstUnwritten s (a + 1) n x := by
  obtain ⟨hle, hlt, hnone, hbefore⟩ := h
  exact ⟨by omega, by omega, hnone, fun b hb => hbefore b (by omega)⟩

theorem loadByte_of_unwritten {s : State} {a : Nat} (hmem : a < s.params.memBytes) (h : s.peek a = none) :
    loadByte s a = .error (.halt (.uninitRead a)) := by
  have hcell : cellRead s.mem a = none := by simpa [State.peek, hmem] using h
  simp [loadByte, hmem, hcell]

/-- A range read inside MEM stops at the first byte that nothing has written. -/
theorem loadBytes_of_firstUnwritten {s : State} {a n x : Nat} (hfit : a + n ≤ s.params.memBytes)
    (h : FirstUnwritten s a n x) : loadBytes s a n = .error (.halt (.uninitRead x)) := by
  induction n generalizing a with
  | zero =>
    obtain ⟨hle, hlt, -, -⟩ := h
    omega
  | succ n ih =>
    rw [loadBytes, cmd_bind_eq_error]
    by_cases hax : a = x
    · subst hax
      obtain ⟨-, -, hnone, -⟩ := h
      exact .inl (loadByte_of_unwritten (by omega) hnone)
    · have hrest := ih (by omega) (h.tail hax)
      obtain ⟨hle, -, -, hbefore⟩ := h
      obtain ⟨v, hv⟩ := Option.ne_none_iff_exists'.1 (hbefore a le_rfl (by omega))
      exact .inr ⟨v, loadByte_eq_ok.2 hv, cmd_bind_eq_error.2 (.inl hrest)⟩

/-! ### How a body begins: its checks, then its source range -/

theorem checkSrc_bind_of_not_fits {α : Type} {s : State} {a n : Nat} (h : ¬Fits s a n) (k : Unit → Cmd α) :
    (checkSrc s a n >>= k) = .error (.raise .bounds a) :=
  cmd_bind_eq_error.2 (.inl (checkSrc_eq_error.2 ⟨h, rfl⟩))

/-- A body that checks its source range and reads it stops at the first byte of it that nothing has written, whatever it goes on
to do. -/
theorem sourceRead_of_firstUnwritten {α : Type} {s : State} {a n x : Nat} (hfit : Fits s a n)
    (h : FirstUnwritten s a n x) (k : List Byte → Cmd α) :
    (checkSrc s a n >>= fun _ => loadBytes s a n >>= k) = .error (.halt (.uninitRead x)) := by
  have hin : a + n ≤ s.params.memBytes := by
    obtain ⟨hle, hlt, -, -⟩ := h
    rcases hfit with hzero | hin <;> omega
  exact cmd_bind_eq_error.2 (.inr ⟨(), checkSrc_eq_ok.2 hfit,
    cmd_bind_eq_error.2 (.inl (loadBytes_of_firstUnwritten hin h))⟩)

/-- A check that passes leaves a body's error to the rest of the body. -/
theorem raiseIf_bind_eq_error {α : Type} {c : Bool} {k : FaultCode} {n : Nat} {rest : Unit → Cmd α} {e : Stop}
    (hc : c = false) (h : rest () = .error e) : (raiseIf c k n >>= rest) = .error e :=
  cmd_bind_eq_error.2 (.inr ⟨(), raiseIf_eq_ok.2 hc, h⟩)

/-! ### The reserved bits of A3 (30_encoding R88) -/

theorem exp8Clean_iff (v : Word) : exp8Clean v = true ↔ v.toNat < 256 := by
  simp only [exp8Clean, beq_iff_eq, BitVec.toNat_eq, BitVec.extractLsb'_toNat, BitVec.toNat_ofNat,
    Nat.shiftRight_eq_div_pow]
  omega

/-- 0xFF808080 has exactly the bits that ADDR3 reserves, [31:23], [15] and [7]. -/
theorem getLsbD_addr3Reserved :
    ∀ i < 32, (0xFF808080#32).getLsbD i = decide (23 ≤ i ∨ i = 15 ∨ i = 7) := by decide

theorem addr3Clean_iff (v : Word) : addr3Clean v = true ↔ v &&& 0xFF808080#32 = 0#32 := by
  have hmask : v &&& 0xFF808080#32 = 0#32 ↔ ∀ i < 32, (23 ≤ i ∨ i = 15 ∨ i = 7) → v.getLsbD i = false := by
    rw [BitVec.eq_of_getLsbD_eq_iff]
    refine forall₂_congr fun i hi => ?_
    rw [BitVec.getLsbD_zero, BitVec.getLsbD_and, getLsbD_addr3Reserved i hi, Bool.and_eq_false_iff, decide_eq_false_iff_not]
    tauto
  have htop : v.extractLsb' 23 9 = 0#9 ↔ ∀ i < 9, v.getLsbD (23 + i) = false := by
    rw [BitVec.eq_of_getLsbD_eq_iff]
    exact forall₂_congr fun i hi => by simp [hi]
  rw [hmask, addr3Clean, Bool.and_eq_true, Bool.and_eq_true, beq_iff_eq, htop, Bool.not_eq_true', Bool.not_eq_true']
  constructor
  · rintro ⟨⟨h23, h15⟩, h7⟩ i hi (hge | rfl | rfl)
    · obtain ⟨j, rfl⟩ := Nat.exists_eq_add_of_le hge
      exact h23 j (by omega)
    · exact h15
    · exact h7
  · intro h
    exact ⟨⟨fun i hi => h (23 + i) (by omega) (by omega), h 15 (by omega) (by omega)⟩, h 7 (by omega) (by omega)⟩

/-! ### Obligations on the source range -/

/-- Settles O37: every body but VERIFY, DECODE_BULK and ENCODE_BULK begins with its source range, and those three check A3, CTRL
or A1 first, which the hypotheses let pass. -/
theorem sourceRangeFaults : Obligations.SourceRangeFaults := by
  refine ⟨fun s hfit => ⟨?checksum, fun hexp => ?verify, ?frameReset, ?classify⟩,
    fun s x hfit hle hlt hnone hbefore => ?_⟩
  case checksum | frameReset | classify => exact exec_of_body_raise (checkSrc_bind_of_not_fits hfit _)
  case verify =>
    exact exec_of_body_raise (raiseIf_bind_eq_error (by simpa [exp8Clean_iff] using hexp)
      (checkSrc_bind_of_not_fits hfit _))
  have hfirst : FirstUnwritten s s.a0.toNat s.a1.toNat x := ⟨hle, hlt, hnone, hbefore⟩
  refine ⟨?pack, ?unpack, ?checksum, fun hexp => ?verify, ?classify, fun hspan => ?decodeBulk,
    fun dev haddr hlen => ?encodeBulk⟩
  case pack | unpack | checksum | classify =>
    exact exec_of_body_halt (sourceRead_of_firstUnwritten hfit hfirst _)
  case verify =>
    exact exec_of_body_halt (raiseIf_bind_eq_error (by simpa [exp8Clean_iff] using hexp)
      (sourceRead_of_firstUnwritten hfit hfirst _))
  case decodeBulk =>
    exact exec_of_body_halt (raiseIf_bind_eq_error (by simpa [State.csSpan] using hspan)
      (sourceRead_of_firstUnwritten hfit hfirst _))
  case encodeBulk =>
    exact exec_of_body_halt (raiseIf_bind_eq_error (by simpa [addr3Clean_iff] using haddr)
      (raiseIf_bind_eq_error (by simpa [Config.maxRawPayload] using hlen)
        (sourceRead_of_firstUnwritten hfit hfirst _)))

/-! ### Power-on reset -/

theorem config_memBytes_bounds : 65536 ≤ Config.memBytes ∧ Config.memBytes ≤ 2 ^ 31 := by
  unfold Config.memBytes
  omega

theorem config_sizeSmall_bounds : 17 ≤ Config.sizeSmall ∧ Config.sizeSmall < 65536 := by
  unfold Config.sizeSmall
  omega

theorem config_sizeLarge_bounds : Config.sizeSmall < Config.sizeLarge ∧ Config.sizeLarge ≤ 65536 := by
  obtain ⟨-, hsmall⟩ := config_sizeSmall_bounds
  have hchoice : Config.sizeLargeChoice % (65536 - Config.sizeSmall) < 65536 - Config.sizeSmall :=
    Nat.mod_lt _ (Nat.sub_pos_of_lt hsmall)
  unfold Config.sizeLarge
  omega

/-- The open parameters lie within the bounds of 00_scope R6, whatever was chosen for them. -/
theorem config_params_wellFormed : Config.params.wellFormed = true := by
  obtain ⟨hmem, hmem'⟩ := config_memBytes_bounds
  obtain ⟨hsmall, -⟩ := config_sizeSmall_bounds
  obtain ⟨hlarge, hlarge'⟩ := config_sizeLarge_bounds
  simp only [Params.wellFormed, Config.params, hmem, hmem', hsmall, hlarge, hlarge', decide_true, Bool.and_self]

@[simp] theorem State.flag_resetWith (p : Params) (b : StatusBit) : (State.resetWith p).flag b = false := by
  simp [State.flag, State.resetWith]

theorem State.bank_resetWith (p : Params) (k : Bool) :
    (State.resetWith p).bank k = Vector.replicate 32 ⟨0#32, 0#32⟩ := by
  cases k <;> rfl

theorem reset_memoryCanonical (p : Params) : MemoryCanonical (State.resetWith p) :=
  ⟨reset_memory_wf p, fun _ h => absurd h List.not_mem_nil⟩

theorem reset_reservedBitsClear (p : Params) : ReservedBitsClear (State.resetWith p) := by
  have hctrl : 4#32 &&& 0xFFFFFFF0#32 = 0#32 := by decide
  have hentry : EntryBitsClear ⟨0#32, 0#32⟩ := by decide
  refine ⟨⟨BitVec.zero_and, BitVec.zero_and, hctrl⟩, fun k i => ?_⟩
  simpa [State.bank_resetWith] using hentry

theorem reset_framerOrdered (p : Params) : FramerOrdered (State.resetWith p) := by
  intro h
  simp at h

theorem reset_openPatternValid (p : Params) : OpenPatternValid (State.resetWith p) := by
  intro h
  simp at h

theorem reset_stageDisciplined (p : Params) : StageDisciplined (State.resetWith p) :=
  ⟨fun _ => rfl, List.Pairwise.nil, fun _ h => absurd h List.not_mem_nil⟩

/-- The state after reset meets every invariant for any parameters within the bounds of 00_scope R6. -/
theorem invariant_resetWith {p : Params} (h : p.wellFormed = true) : Invariant (State.resetWith p) :=
  ⟨h, reset_memoryCanonical p, reset_reservedBitsClear p, reset_framerOrdered p, reset_openPatternValid p,
    reset_stageDisciplined p⟩

/-- Settles O26: whatever is chosen for the open parameters, they lie within R6's bounds. -/
theorem resetMeetsInvariant : Obligations.ResetMeetsInvariant :=
  invariant_resetWith config_params_wellFormed

end Sys2Proof.Machine
end

section
/-! Proofs for 10_state: the CSR map and the host's register accesses (R20 to R40, R45), what a command and a step can change
(R41, R47), and the invariants that every step keeps. -/

namespace Sys2Proof.Machine

/-! ### The CSR map (10_state R20, R39) -/

theorem csrAt_of_ge {off : Nat} (h : 0x100 ≤ off) : csrAt off = fdtAt off := by
  unfold csrAt
  split
  iterate 27 · omega
  rfl

/-- What the map reads from the offset of byte `lo` of entry `e` of bank `b` (10_state R39). -/
theorem fdtOffset_fields (b : Bool) (e : BitVec 5) {lo off : Nat} (hlo : lo < 8)
    (hoff : off = 0x100 + 0x100 * b.toNat + 8 * e.toNat + lo) :
    (0x100 ≤ off ∧ off < 0x300) ∧ off % 8 = lo ∧ decide (0x200 ≤ off) = b ∧ BitVec.ofNat 5 (off % 0x100 / 8) = e := by
  have he := e.isLt
  have hb := b.toNat_le
  have hindex : off % 0x100 / 8 = e.toNat := by omega
  refine ⟨by omega, by omega, ?_, by rw [hindex, BitVec.ofNat_toNat, BitVec.setWidth_eq]⟩
  cases b with
  | false => rw [Bool.toNat_false] at hoff; exact decide_eq_false (by omega)
  | true => rw [Bool.toNat_true] at hoff; exact decide_eq_true (by omega)

theorem fdtAt_word0 (b : Bool) (e : BitVec 5) : fdtAt (csrOffset (.fdtWord0 b e)) = some (.fdtWord0 b e) := by
  obtain ⟨hin, hmod, hbank, hentry⟩ :=
    fdtOffset_fields b e (lo := 0) (off := csrOffset (.fdtWord0 b e)) (by decide) rfl
  rw [fdtAt, if_pos hin, if_pos hmod, hbank, hentry]

theorem fdtAt_word1 (b : Bool) (e : BitVec 5) : fdtAt (csrOffset (.fdtWord1 b e)) = some (.fdtWord1 b e) := by
  obtain ⟨hin, hmod, hbank, hentry⟩ :=
    fdtOffset_fields b e (lo := 4) (off := csrOffset (.fdtWord1 b e)) (by decide) rfl
  rw [fdtAt, if_pos hin, if_neg (by omega), if_pos hmod, hbank, hentry]

theorem csrAt_csrOffset (c : Csr) : csrAt (csrOffset c) = some c := by
  cases c with
  | magic k => revert k; decide
  | fdtWord0 b e => exact (csrAt_of_ge (by simp only [csrOffset]; omega)).trans (fdtAt_word0 b e)
  | fdtWord1 b e => exact (csrAt_of_ge (by simp only [csrOffset]; omega)).trans (fdtAt_word1 b e)
  | _ => rfl

/-- Offset and register number of an FDT word's address, put together again. -/
theorem fdtEntryOffset {off : Nat} (hlo : 0x100 ≤ off) (hhi : off < 0x300) :
    0x100 + 0x100 * (decide (0x200 ≤ off)).toNat + 8 * (BitVec.ofNat 5 (off % 0x100 / 8)).toNat = off - off % 8 := by
  rw [BitVec.toNat_ofNat]
  by_cases h : 0x200 ≤ off <;> simp [h] <;> omega

theorem csrOffset_of_fdtAt {off : Nat} {c : Csr} (h : fdtAt off = some c) : csrOffset c = off := by
  unfold fdtAt at h
  split at h
  next hin =>
    obtain ⟨hlo, hhi⟩ := hin
    have hoff := fdtEntryOffset hlo hhi
    split at h
    next h0 => cases h; simp only [csrOffset]; omega
    next =>
      split at h
      next h4 => cases h; simp only [csrOffset]; omega
      next => cases h
  next => cases h

theorem csrOffset_of_csrAt {off : Nat} {c : Csr} (h : csrAt off = some c) : csrOffset c = off := by
  unfold csrAt at h
  split at h
  iterate 27 · cases h; rfl
  exact csrOffset_of_fdtAt h

/-- Settles O9: `csrAt` and `csrOffset` are each other's inverse, the FDT words by the arithmetic of R39. -/
theorem csrMapIsOneToOne : Obligations.CsrMapIsOneToOne :=
  ⟨csrAt_csrOffset, fun _ _ => csrOffset_of_csrAt⟩

/-- Only offset 0 is CMD. -/
theorem eq_zero_of_csrAt_cmd {off : Nat} (h : csrAt off = some .cmd) : off = 0 :=
  (csrOffset_of_csrAt h).symm

/-! ### The offsets off the map (10_state R20, R45) -/

/-- Misaligned, or one of the offsets that R20 gives no register. -/
def OffTheMap (off : Nat) : Prop :=
  off % 4 ≠ 0 ∨ 0x300 ≤ off ∨ (0x080 ≤ off ∧ off < 0x100) ∨ off ∈ [0x034, 0x038, 0x03C, 0x068, 0x06C]

theorem not_offTheMap_csrOffset (c : Csr) : ¬OffTheMap (csrOffset c) := by
  cases c with
  | magic k => revert k; unfold OffTheMap; decide
  | fdtWord0 b e | fdtWord1 b e =>
    have he := e.isLt
    have hb := b.toNat_le
    simp only [OffTheMap, csrOffset, List.mem_cons, List.not_mem_nil, or_false]
    omega
  | _ => unfold OffTheMap; decide

theorem csrAt_eq_none_of_offTheMap {off : Nat} (h : OffTheMap off) : csrAt off = none := by
  refine Option.eq_none_iff_forall_ne_some.2 fun c hc => not_offTheMap_csrOffset c ?_
  rwa [csrOffset_of_csrAt hc]

/-! ### One host access (20_memory R74 to R76) -/

section HostAccess

variable {s : State} {off : Nat} {v : Word} {c : Csr}

theorem step_of_nextTxn {t : HostTxn} (hidle : s.flag .busy = false) (h : s.nextTxn = some t) :
    step s = performIdle s.advance t := by
  simp [step, h, perform, hidle]

theorem step_csrRead (hidle : s.flag .busy = false) (h : s.nextTxn = some (.csrRead off)) (hc : csrAt off = some c) :
    step s = .next (s.advance.returned (readCsr s.advance c)) := by
  simp [step_of_nextTxn hidle h, performIdle, hostCsrRead, hc]

theorem step_csrRead_unmapped (hidle : s.flag .busy = false) (h : s.nextTxn = some (.csrRead off))
    (hc : csrAt off = none) : step s = .next (s.advance.busError.returned 0#32) := by
  simp [step_of_nextTxn hidle h, performIdle, hostCsrRead, hc]

/-- A write of any register but CMD. -/
theorem hostCsrWrite_of_ne_cmd (hc : csrAt off = some c) (hne : c ≠ .cmd) :
    hostCsrWrite s off v = .next (writeCsr s c v) := by
  unfold hostCsrWrite
  rw [hc]
  cases c with
  | cmd => exact absurd rfl hne
  | _ => rfl

theorem step_csrWrite (hidle : s.flag .busy = false) (h : s.nextTxn = some (.csrWrite off v)) (hc : csrAt off = some c)
    (hne : c ≠ .cmd) : step s = .next (writeCsr s.advance c v) := by
  rw [step_of_nextTxn hidle h]
  exact hostCsrWrite_of_ne_cmd hc hne

theorem step_csrWrite_unmapped (hidle : s.flag .busy = false) (h : s.nextTxn = some (.csrWrite off v))
    (hc : csrAt off = none) : step s = .next s.advance.busError := by
  simp [step_of_nextTxn hidle h, performIdle, hostCsrWrite, hc]

end HostAccess

/-- Settles O8: no register of the map stands at such an offset, so the bus rejects the access. -/
theorem csrAccessOffTheMap : Obligations.CsrAccessOffTheMap := by
  intro s off hidle hoff
  have hnone : csrAt off = none := csrAt_eq_none_of_offTheMap hoff
  exact ⟨fun h => step_csrRead_unmapped hidle h hnone, fun v h => step_csrWrite_unmapped hidle h hnone⟩

/-! ### What a host read of a register returns (10_state R20 to R39) -/

theorem readCsr_advance (s : State) (c : Csr) : readCsr s.advance c = readCsr s c := by
  cases c <;> rfl

theorem toNat_append_byte {n : Nat} (a : BitVec n) (b : Byte) : (a ++ b).toNat = a.toNat * 256 + b.toNat := by
  rw [BitVec.toNat_append, ← Nat.shiftLeft_add_eq_or_of_lt b.isLt, Nat.shiftLeft_eq]

/-- Byte `j` of a word of four bytes, the first in bits [31:24]. -/
theorem byte_of_word (f : Nat → Byte) (j : Fin 4) :
    ((f 0 ++ f 1 ++ f 2 ++ f 3 : Word) >>> (24 - 8 * j.val)).toNat % 256 = (f j.val).toNat := by
  have h0 := (f 0).isLt
  have h1 := (f 1).isLt
  have h2 := (f 2).isLt
  have h3 := (f 3).isLt
  rw [BitVec.toNat_ushiftRight, Nat.shiftRight_eq_div_pow]
  simp only [toNat_append_byte]
  fin_cases j <;> simp only <;> omega

theorem magicBytes_getD (p : Params) {i : Nat} (hi : i < 16) :
    ((magicBytes p).getD i 0#8).toNat = (p.magic[i]).toNat := by
  have hlt := (p.magic[i]).isLt
  simp [magicBytes, hi, List.getD]
  omega

/-- MAGICk holds bytes 4k .. 4k+3 of P_MAGIC, the first in bits [31:24] (10_state R36). -/
theorem byte_of_magicWord (p : Params) (k j : Fin 4) :
    ((magicWord p k) >>> (24 - 8 * j.val)).toNat % 256 = (p.magic[4 * k.val + j.val]).toNat :=
  (byte_of_word (fun j => (magicBytes p).getD (4 * k.val + j) 0#8) j).trans (magicBytes_getD p (by omega))

/-- Settles O10: every register is read back at its offset; R36's bytes are the one layout that needs an argument. -/
theorem csrReadsReturnRegisters : Obligations.CsrReadsReturnRegisters := by
  intro s hidle
  have read (c : Csr) (h : s.nextTxn = some (.csrRead (csrOffset c))) :
      step s = .next { s with rdata := readCsr s c, pc := s.pc + 1 } := by
    rw [step_csrRead hidle h (csrAt_csrOffset c), readCsr_advance]
    rfl
  refine ⟨⟨read .cmd, read .status, read .err, read .errInfo, read .ctrl⟩,
    ⟨read .a0, read .a1, read .a2, read .a3, read .a4⟩, ⟨read .r0, read .r1, read .r2, read .r3⟩,
    ⟨read .frameCur, read .frameEnd, read .patBase, read .patSize⟩,
    ⟨?mfrId, ?modelId, read .memBytes, read .sizeSmall, read .sizeLarge⟩,
    fun k => ⟨magicWord s.params k, read (.magic k), byte_of_magicWord s.params k⟩,
    fun b e => ⟨read (.fdtWord0 b (.ofFin e)), read (.fdtWord1 b (.ofFin e))⟩⟩
  case mfrId => rw [BitVec.ofNat_toNat]; exact read .mfrId
  case modelId => rw [BitVec.ofNat_toNat]; exact read .modelId

/-! ### What a host write of a register does (10_state R23 to R45) -/

/-- The read-only registers. -/
def readOnlyRegisters : List Csr :=
  [.err, .errInfo, .mfrId, .modelId, .memBytes, .r0, .r1, .r2, .r3, .frameCur, .frameEnd, .patBase, .patSize, .sizeSmall,
    .sizeLarge, .magic 0, .magic 1, .magic 2, .magic 3]

theorem writeCsr_readOnly {c : Csr} (h : c ∈ readOnlyRegisters) (s : State) (v : Word) : writeCsr s c v = s := by
  have : ∀ c ∈ readOnlyRegisters, writeCsr s c v = s := by simp [readOnlyRegisters, writeCsr]
  exact this c h

theorem ne_cmd_of_readOnly : ∀ c ∈ readOnlyRegisters, c ≠ .cmd := by decide

/-- Settles O11: each write is `writeCsr` of the register at its offset. -/
theorem hostRegisterWrites : Obligations.HostRegisterWrites := by
  intro s off v hidle h
  have write (c : Csr) (hne : c ≠ .cmd) (hoff : off = csrOffset c) : step s = .next (writeCsr s.advance c v) :=
    step_csrWrite hidle h (hoff ▸ csrAt_csrOffset c) hne
  refine ⟨write .ctrl (by decide), write .a0 (by decide), write .a1 (by decide), write .a2 (by decide),
    write .a3 (by decide), write .a4 (by decide), fun hmem => ?_⟩
  obtain ⟨c, hc, hoff⟩ : ∃ c ∈ readOnlyRegisters, csrOffset c = off := List.mem_map.1 hmem
  rw [write c (ne_cmd_of_readOnly c hc) hoff.symm, writeCsr_readOnly hc]
  rfl

theorem getLsbD_w1cMask : ∀ j < 32, w1cMask.getLsbD j = isW1C j := by decide

/-! ### STATUS writes (10_state R23) -/

theorem getLsbD_clearW1C (s : State) (v : Word) {j : Nat} (hj : j < 32) :
    (s.clearW1C v).status.getLsbD j = (s.status.getLsbD j && !(v.getLsbD j && isW1C j)) := by
  rw [State.clearW1C_status, BitVec.getLsbD_and, BitVec.getLsbD_not, BitVec.getLsbD_and, getLsbD_w1cMask j hj]
  simp [hj]

/-! ### Output: what every command may write

A command that is no command of the framer or the pattern stores bytes in MEM, writes R0 to R3 and sets warnings, and nothing
else; the others do so on top of their own writes. -/

/-- The warnings a command can set (60_exceptions R215). -/
def commandWarnings : List StatusBit := [.wNonclean, .wDiscard, .wBcMismatch, .wCsBad]

/-- `OutputOnly s t`: `t` is `s` after output alone. -/
inductive OutputOnly (s : State) : State → Prop where
  | refl : OutputOnly s s
  | storeBytes {t : State} {a : Nat} {vs : List Byte} (h : OutputOnly s t) (hfit : Fits s a vs.length) :
      OutputOnly s (t.storeBytes a vs)
  | setR0 {t : State} {n : Nat} (h : OutputOnly s t) : OutputOnly s (t.setR0 n)
  | setR1 {t : State} {n : Nat} (h : OutputOnly s t) : OutputOnly s (t.setR1 n)
  | setR2 {t : State} {n : Nat} (h : OutputOnly s t) : OutputOnly s (t.setR2 n)
  | setR3 {t : State} {n : Nat} (h : OutputOnly s t) : OutputOnly s (t.setR3 n)
  | warnIf {t : State} {c : Bool} {b : StatusBit} (h : OutputOnly s t) (hb : b ∈ commandWarnings) :
      OutputOnly s (t.warnIf c b)

namespace OutputOnly

variable {s t : State}

/-- Output changes MEM, STATUS and R0 to R3 alone. -/
theorem frame (h : OutputOnly s t) :
    t = { s with mem := t.mem, status := t.status, r0 := t.r0, r1 := t.r1, r2 := t.r2, r3 := t.r3 } := by
  induction h with
  | refl => rfl
  | storeBytes _ _ ih => exact congrArg (State.storeBytes · _ _) ih
  | setR0 _ ih => exact congrArg (State.setR0 · _) ih
  | setR1 _ ih => exact congrArg (State.setR1 · _) ih
  | setR2 _ ih => exact congrArg (State.setR2 · _) ih
  | setR3 _ ih => exact congrArg (State.setR3 · _) ih
  | @warnIf u c b _ _ ih =>
    cases c with
    | false => exact ih
    | true => exact congrArg (State.setFlag · b true) ih

theorem flag_eq (h : OutputOnly s t) {b : StatusBit} (hb : b ∉ commandWarnings) : t.flag b = s.flag b := by
  induction h with
  | refl => rfl
  | storeBytes _ _ ih | setR0 _ ih | setR1 _ ih | setR2 _ ih | setR3 _ ih => simpa using ih
  | warnIf _ hc ih => rw [State.flag_warnIf, if_neg (ne_of_mem_of_not_mem hc hb).symm, ih]

/-- Output clears no field of STATUS. -/
theorem flag_mono (h : OutputOnly s t) {b : StatusBit} (hb : s.flag b = true) : t.flag b = true := by
  induction h with
  | refl => exact hb
  | storeBytes _ _ ih | setR0 _ ih | setR1 _ ih | setR2 _ ih | setR3 _ ih => simpa using ih
  | warnIf _ _ ih => simp [ih]

theorem params_eq (h : OutputOnly s t) : t.params = s.params := (congrArg State.params h.frame :)

end OutputOnly

/-! ### What each command can change -/

/-- A scan that finds a span has bytes left to scan, and the span ends among them. -/
theorem frameScan_found {s : State} {n i d start len disc : Nat} {run : Option Nat}
    (hrun : ∀ r, run = some r → r ≤ i) (h : frameScan s n i run d = .ok (.found start len disc)) :
    0 < n ∧ start + len ≤ i + n := by
  induction n generalizing i run d with
  | zero => cases h
  | succ n ih =>
    rw [frameScan, cmd_bind_eq_ok] at h
    obtain ⟨b, -, h⟩ := h
    have later {run' : Option Nat} {d' : Nat} (hrun' : ∀ r, run' = some r → r ≤ i + 1)
        (h' : frameScan s n (i + 1) run' d' = .ok (.found start len disc)) :
        0 < n + 1 ∧ start + len ≤ i + (n + 1) := by
      obtain ⟨-, hend⟩ := ih hrun' h'
      omega
    split at h
    next => exact later (by rintro r ⟨⟩; omega) h
    next =>
      cases run with
      | none => exact later (by rintro r ⟨⟩) h
      | some r =>
        have hr := hrun r rfl
        dsimp only at h
        split at h
        next => cases h; omega
        next => exact later (by rintro r' ⟨⟩; omega) h

/-- What FRAME_NEXT leaves in FRAME_CUR: the end of the span it found, or FRAME_END. -/
def scanCur (s : State) : Scan → Word
  | .found start len _ => BitVec.ofNat 32 (start + len)
  | .ended _ => s.frameEnd

theorem takeScan_outputOnly (s : State) (r : Scan) : OutputOnly { s with frameCur := scanCur s r } (s.takeScan r) := by
  cases r <;> exact .warnIf (.setR3 (.setR2 (.setR1 (.setR0 .refl)))) (by decide)

/-- FRAME_NEXT moves FRAME_CUR to FRAME_END, or, while bytes are left, to an address no higher. -/
theorem scanCur_le {s : State} {r : Scan}
    (h : frameScan s (s.frameEnd.toNat - s.frameCur.toNat) s.frameCur.toNat none 0 = .ok r) :
    scanCur s r = s.frameEnd ∨
      s.frameCur.toNat < s.frameEnd.toNat ∧ (scanCur s r).toNat ≤ s.frameEnd.toNat := by
  cases r with
  | found start len disc =>
    obtain ⟨hleft, hspan⟩ := frameScan_found (by rintro r ⟨⟩) h
    have hmod : (scanCur s (.found start len disc)).toNat ≤ start + len := Nat.mod_le _ _
    exact .inr ⟨by omega, by omega⟩
  | ended => exact .inl rfl

/-- What a command can leave: output, its own writes, or fault entry on the state before it (60_exceptions R210). The framer's and
the pattern's commands, and SOFT_RESET, are the ones with writes of their own. -/
inductive CommandEffect (s : State) : Instr → State → Prop where
  | fault (i : Instr) (c : FaultCode) (n : Nat) : CommandEffect s i (s.raiseFault c n)
  | output {i : Instr} {t : State} (h : OutputOnly s t) : CommandEffect s i t
  | frameReset (hfit : Fits s s.a0.toNat s.a1.toNat) :
      CommandEffect s .frameReset
        ({ s with frameCur := s.a0, frameEnd := BitVec.ofNat 32 (s.a0.toNat + s.a1.toNat) }.setFlag .frameActive true)
  | frameNext {t : State} {cur : Word}
      (hcur : cur = s.frameEnd ∨ s.frameCur.toNat < s.frameEnd.toNat ∧ cur.toNat ≤ s.frameEnd.toNat)
      (h : OutputOnly { s with frameCur := cur } t) : CommandEffect s .frameNext t
  | patOpen {b : Bool} (hsize : sizeVariant s.params s.a1.toNat = some b) (hfit : Fits s s.a0.toNat s.a1.toNat)
      (hvalid : validateFdt (s.bank b) s.a1.toNat = none) :
      CommandEffect s .patOpen
        ((({ s with patBase := s.a0, patSize := s.a1 }.setFlag .patVariant b).setFlag .patOpen true).clearStage.setR0
          b.toNat)
  | patWriteSafe {fid : BitVec 5} {t : State} {vs : List Byte} (hopen : s.flag .patOpen = true)
      (hvalid : (s.entry fid).valid = true) (hidx : s.a3.toNat < (s.entry fid).count)
      (hcls : (s.entry fid).cls ≠ .preserve) (hlen : vs.length = (s.entry fid).elemLen)
      (h : OutputOnly (s.stage ((s.entry fid).start + s.a3.toNat * (s.entry fid).elemLen) vs) t) :
      CommandEffect s (.patWriteSafe fid) t
  | patClearStage : CommandEffect s .patClearStage s.clearStage
  | patClose : CommandEffect s .patClose s.closePattern
  | softReset : CommandEffect s .softReset s.softReset

theorem patGetBody_outputOnly {fid : BitVec 5} {s t : State} (h : patGetBody fid s = .ok t) : OutputOnly s t := by
  have ofBytes {p n off : Nat} (h : getBytes s p n off = .ok t) : OutputOnly s t := by
    obtain ⟨-, hfit, -, v, hlen, -, rfl⟩ := getBytes_eq_ok.1 h
    exact .setR1 (.setR0 (.storeBytes .refl (hlen ▸ hfit)))
  obtain ⟨-, -, -, h⟩ := patGetBody_eq_ok.1 h
  split at h
  next =>
    obtain ⟨v, -, h⟩ := cmd_bind_eq_ok.1 h
    cases h
    exact .setR1 (.setR0 .refl)
  next =>
    obtain ⟨v, -, h⟩ := cmd_bind_eq_ok.1 h
    cases h
    exact .setR1 (.setR0 .refl)
  next => exact ofBytes h
  next => exact ofBytes h

/-- What a body that completes has done, command by command. -/
theorem commandEffect_of_bodyOf {i : Instr} {s t : State} (h : bodyOf i s = .ok t) : CommandEffect s i t := by
  cases i with
  | nop => cases h; exact .output .refl
  | pack =>
    obtain ⟨_, -, -, -, -, hfit, -, rfl⟩ := packBody_eq_ok.1 h
    exact .output (.setR0 (.storeBytes .refl hfit))
  | unpack =>
    obtain ⟨_, -, -, -, -, -, hfit, -, rfl⟩ := unpackBody_eq_ok.1 h
    exact .output (.warnIf (.setR0 (.storeBytes .refl hfit)) (by decide))
  | checksum =>
    obtain ⟨_, -, -, -, rfl⟩ := checksumBody_eq_ok.1 h
    exact .output (.setR0 .refl)
  | verify =>
    obtain ⟨-, _, -, -, -, rfl⟩ := verifyBody_eq_ok.1 h
    exact .output (.setR1 (.setR0 .refl))
  | frameReset =>
    obtain ⟨hfit, rfl⟩ := frameResetBody_eq_ok.1 h
    exact .frameReset hfit
  | frameNext =>
    obtain ⟨-, r, hscan, rfl⟩ := frameNextBody_eq_ok.1 h
    exact .frameNext (scanCur_le hscan) (takeScan_outputOnly s r)
  | classify =>
    obtain ⟨_, -, -, -, rfl⟩ := classifyBody_eq_ok.1 h
    exact .output (.setR3 (.setR2 (.setR1 (.setR0 .refl))))
  | decodeBulk =>
    obtain ⟨-, _, -, -, -, -, -, -, -, hfit, -, rfl⟩ := decodeBulkBody_eq_ok.1 h
    exact .output (.warnIf (.warnIf (.warnIf (.setR3 (.setR2 (.setR1 (.setR0 (.storeBytes .refl hfit)))))
      (by decide)) (by decide)) (by decide))
  | encodeBulk dev =>
    obtain ⟨-, -, _, -, -, -, -, hfit, -, rfl⟩ := encodeBulkBody_eq_ok.1 h
    exact .output (.setR2 (.setR1 (.setR0 (.storeBytes .refl hfit))))
  | encodeInit dev | encodeClose dev =>
    obtain ⟨-, hfit, rfl⟩ := encodeControlBody_eq_ok.1 h
    exact .output (.setR0 (.storeBytes .refl hfit))
  | patOpen =>
    obtain ⟨b, hsize, hfit, -, -, hvalid, rfl⟩ := patOpenBody_eq_ok.1 h
    exact .patOpen hsize hfit hvalid
  | patGet fid => exact .output (patGetBody_outputOnly h)
  | patSectionEnabled fid =>
    obtain ⟨-, -, -, -, _, -, rfl⟩ := patSectionEnabledBody_eq_ok.1 h
    exact .output (.setR1 (.setR0 .refl))
  | patWriteSafe fid =>
    obtain ⟨hopen, hvalid, hidx, hcls, -, -, _, hlen, -, rfl⟩ := patWriteSafeBody_eq_ok.1 h
    exact .patWriteSafe hopen hvalid hidx hcls hlen (.setR1 (.setR0 .refl))
  | patOverlay =>
    obtain ⟨-, -, hfit, -, _, hread, rfl⟩ := patOverlayBody_eq_ok.1 h
    obtain ⟨hlen, -⟩ := overlayBytes_eq_ok.1 hread
    exact .output (.setR1 (.setR0 (.storeBytes .refl (hlen.symm ▸ hfit))))
  | patClearStage => cases h; exact .patClearStage
  | patClose => cases h; exact .patClose
  | softReset => cases h; exact .softReset

theorem commandEffect_of_exec {i : Instr} {s t : State} (h : exec i s = .next t) : CommandEffect s i t := by
  rw [exec_eq_commit, commit_eq_next] at h
  rcases h with h | ⟨c, n, -, rfl⟩
  · exact commandEffect_of_bodyOf h
  · exact .fault i c n

/-! ### What each step can change -/

/-- What a host write of a register but CMD can leave (10_state R20 to R45). -/
inductive CsrWriteEffect (s : State) : State → Prop where
  | readOnly : CsrWriteEffect s s
  | status (v : Word) : CsrWriteEffect s (s.clearW1C v)
  | ctrl (v : Word) : CsrWriteEffect s { s with ctrl := v &&& ctrlMask }
  | operands (a0 a1 a2 a3 a4 : Word) : CsrWriteEffect s { s with a0 := a0, a1 := a1, a2 := a2, a3 := a3, a4 := a4 }
  | fdt (b : Bool) (e : BitVec 5) (x : FdtEntry) (hclear : EntryBitsClear (s.bank b)[e.toFin] → EntryBitsClear x) :
      CsrWriteEffect s ((s.setEntry b e x).closeIfInUse b)

theorem and_mask_and {v m r : Word} (h : m &&& r = 0#32) : v &&& m &&& r = 0#32 := by
  rw [BitVec.and_assoc, h, BitVec.and_zero]

theorem csrWriteEffect_writeCsr (s : State) (c : Csr) (v : Word) : CsrWriteEffect s (writeCsr s c v) := by
  cases c with
  | status => exact .status v
  | ctrl => exact .ctrl v
  | a0 => exact .operands v _ _ _ _
  | a1 => exact .operands _ v _ _ _
  | a2 => exact .operands _ _ v _ _
  | a3 => exact .operands _ _ _ v _
  | a4 => exact .operands _ _ _ _ v
  | fdtWord0 b e => exact .fdt b e _ fun ⟨_, h1⟩ => ⟨and_mask_and (by decide), h1⟩
  | fdtWord1 b e => exact .fdt b e _ fun ⟨h0, _⟩ => ⟨h0, and_mask_and (by decide)⟩
  | _ => exact .readOnly

/-- What a step can leave (20_memory R74 to R76, 30_encoding R95). -/
inductive StepEffect (s : State) : State → Prop where
  /-- The host program has ended. -/
  | idle : StepEffect s s
  /-- A read, or an access that the bus rejects. -/
  | bus (rejected : Bool) (v : Word) : StepEffect s ((s.advance.warnIf rejected .wBusErr).returned v)
  | memWrite {a : Nat} (v : Byte) (h : a < s.params.memBytes) : StepEffect s (s.advance.storeBytes a [v])
  | csrWrite {t : State} (h : CsrWriteEffect s.advance t) : StepEffect s t
  | command {w : Word} {i : Instr} {t : State} (hw : s.nextCommand = some w) (hidle : s.flag .busy = false)
      (hi : decode w = .ok i) (h : CommandEffect (s.advance.beginCommand w) i t) : StepEffect s t.endCommand
  /-- A word that names no command (30_encoding R87). -/
  | illegal (w : Word) (n : Nat) :
      StepEffect s ((s.advance.beginCommand w).raiseFault .illegalCommand n).endCommand

theorem performBusy_effect {s t : State} {txn : HostTxn} (h : performBusy s.advance txn = .next t) : StepEffect s t := by
  cases txn with
  | csrRead off =>
    simp only [performBusy] at h
    split at h
    next => cases h; exact .bus false _
    next => cases h; exact .bus true _
  | memRead a => cases h; exact .bus true _
  | memWrite a v | csrWrite off v => cases h; exact .bus true s.rdata

theorem hostMemRead_effect {s t : State} {a : Nat} (h : hostMemRead s.advance a = .next t) : StepEffect s t := by
  unfold hostMemRead at h
  split at h
  next =>
    split at h
    next => cases h; exact .bus false _
    next => cases h
  next => cases h; exact .bus true _

theorem hostMemWrite_effect {s t : State} {a : Nat} {v : Byte} (h : hostMemWrite s.advance a v = .next t) :
    StepEffect s t := by
  unfold hostMemWrite at h
  split at h
  next ha => cases h; exact .memWrite v ha
  next => cases h; exact .bus true s.rdata

theorem hostCsrRead_effect {s t : State} {off : Nat} (h : hostCsrRead s.advance off = .next t) : StepEffect s t := by
  unfold hostCsrRead at h
  split at h
  next => cases h; exact .bus false _
  next => cases h; exact .bus true _

theorem onNext_eq_next {f : State → State} {o : Host.Outcome State Fault Refusal} {t : State} :
    onNext f o = .next t ↔ ∃ u, o = .next u ∧ f u = t := by
  cases o <;> simp [onNext]

theorem runCommand_effect {s t : State} {w : Word} (hw : s.nextCommand = some w) (hidle : s.flag .busy = false)
    (h : runCommand w s.advance = .next t) : StepEffect s t := by
  obtain ⟨u, hrun, rfl⟩ := onNext_eq_next.1 h
  unfold runWord at hrun
  split at hrun
  next i hi => exact .command hw hidle hi (commandEffect_of_exec hrun)
  next => cases hrun; exact .illegal w _

theorem hostCsrWrite_effect {s t : State} {off : Nat} {v : Word} (hidle : s.flag .busy = false)
    (hnext : s.nextTxn = some (.csrWrite off v)) (h : hostCsrWrite s.advance off v = .next t) : StepEffect s t := by
  cases hc : csrAt off with
  | none =>
    simp only [hostCsrWrite, hc] at h
    cases h
    exact .bus true s.rdata
  | some c =>
    by_cases hcmd : c = .cmd
    · subst hcmd
      obtain rfl := eq_zero_of_csrAt_cmd hc
      exact runCommand_effect (by simp [State.nextCommand, hnext]) hidle h
    · rw [hostCsrWrite_of_ne_cmd hc hcmd] at h
      cases h
      exact .csrWrite (csrWriteEffect_writeCsr _ c v)

/-- Every step that answers a next state is one of the kinds of StepEffect. -/
theorem stepEffect_of_step {s t : State} (h : step s = .next t) : StepEffect s t := by
  cases hnext : s.nextTxn with
  | none =>
    simp only [step, hnext] at h
    cases h
    exact .idle
  | some txn =>
    cases hidle : s.flag .busy with
    | true =>
      simp only [step, hnext, perform, State.flag_advance, hidle] at h
      exact performBusy_effect h
    | false =>
      rw [step_of_nextTxn hidle hnext] at h
      cases txn with
      | memRead a => exact hostMemRead_effect h
      | memWrite a v => exact hostMemWrite_effect h
      | csrRead off => exact hostCsrRead_effect h
      | csrWrite off v => exact hostCsrWrite_effect hidle hnext h

/-! ### STATUS and the host's registers under a command (10_state R23, R30, R47) -/

/-- A field of STATUS, once set, stays set through every command but SOFT_RESET, PAT_OPEN's and PAT_CLOSE's fields apart. -/
theorem CommandEffect.flag_mono {i : Instr} {s t : State} (h : CommandEffect s i t) (hi : i ≠ .softReset)
    {b : StatusBit} (hopen : b ≠ .patOpen) (hvariant : b ≠ .patVariant) (hb : s.flag b = true) : t.flag b = true := by
  cases h with
  | fault | patClearStage => simp [hb]
  | output h | frameNext _ h | patWriteSafe _ _ _ _ _ h => exact h.flag_mono hb
  | frameReset =>
    rw [State.flag_setFlag]
    split
    exacts [rfl, hb]
  | patOpen =>
    simp only [State.flag_setR0, State.flag_clearStage, State.flag_setFlag, hopen, hvariant, if_false]
    exact hb
  | patClose => simp [hopen, hb]
  | softReset => exact absurd rfl hi

theorem warning_ne_pattern_fields : ∀ b ∈ [StatusBit.wNonclean, .wDiscard, .wBcMismatch, .wCsBad, .wBusErr],
    b ≠ .patOpen ∧ b ≠ .patVariant := by decide

/-- Settles O12: the STATUS write is `clearW1C`, and the warnings follow from what a command can leave. -/
theorem statusWritesAndWarnings : Obligations.StatusWritesAndWarnings := by
  refine ⟨fun s v hidle h => ?_, fun i s t h hi b hwarn hb => ?_, fun s t h b => ?_⟩
  · exact ⟨s.advance.clearW1C v, step_csrWrite hidle h (csrAt_csrOffset .status) (by decide), rfl,
      fun j hj => getLsbD_clearW1C s.advance v hj⟩
  · obtain ⟨hopen, hvariant⟩ := warning_ne_pattern_fields b hwarn
    exact (commandEffect_of_exec h).flag_mono hi hopen hvariant hb
  · cases h
    exact s.flag_softReset b

/-- `t` has the host's side of the bus, CMD and the parameters of `s` (10_state R21, R34 to R36, R47). -/
def SameHostSide (s t : State) : Prop :=
  t.cmd = s.cmd ∧ t.params = s.params ∧ t.script = s.script ∧ t.pc = s.pc ∧ t.rdata = s.rdata

/-- `t` has A0 to A4, CTRL and the FDT of `s` (10_state R26, R30, R37). -/
def SameOperands (s t : State) : Prop :=
  t.a0 = s.a0 ∧ t.a1 = s.a1 ∧ t.a2 = s.a2 ∧ t.a3 = s.a3 ∧ t.a4 = s.a4 ∧ t.ctrl = s.ctrl ∧
    t.fdt0 = s.fdt0 ∧ t.fdt1 = s.fdt1

theorem OutputOnly.sameHostSide {s t : State} (h : OutputOnly s t) : SameHostSide s t := by
  rw [h.frame]
  exact ⟨rfl, rfl, rfl, rfl, rfl⟩

theorem OutputOnly.sameOperands {s t : State} (h : OutputOnly s t) : SameOperands s t := by
  rw [h.frame]
  exact ⟨rfl, rfl, rfl, rfl, rfl, rfl, rfl, rfl⟩

theorem CommandEffect.sameHostSide {i : Instr} {s t : State} (h : CommandEffect s i t) : SameHostSide s t := by
  cases h with
  | output h | frameNext _ h | patWriteSafe _ _ _ _ _ h => exact h.sameHostSide
  | _ => exact ⟨rfl, rfl, rfl, rfl, rfl⟩

theorem CommandEffect.sameOperands {i : Instr} {s t : State} (h : CommandEffect s i t) (hi : i ≠ .softReset) :
    SameOperands s t := by
  cases h with
  | output h | frameNext _ h | patWriteSafe _ _ _ _ _ h => exact h.sameOperands
  | softReset => exact absurd rfl hi
  | _ => exact ⟨rfl, rfl, rfl, rfl, rfl, rfl, rfl, rfl⟩

theorem CommandEffect.params_eq {i : Instr} {s t : State} (h : CommandEffect s i t) : t.params = s.params := by
  obtain ⟨-, hp, -⟩ := h.sameHostSide
  exact hp

/-- Settles O18. -/
theorem commandsLeaveHostRegisters : Obligations.CommandsLeaveHostRegisters := fun _ _ _ h =>
  ⟨(commandEffect_of_exec h).sameHostSide, (commandEffect_of_exec h).sameOperands⟩

/-! ### FDT writes (10_state R37 to R40) -/

section CloseIfInUse

variable {s : State} {b : Bool}

theorem closeIfInUse_of_inUse (hopen : s.flag .patOpen = true) (hb : s.variant = b) :
    s.closeIfInUse b = s.closePattern := by
  simp [State.closeIfInUse, hopen, hb]

theorem closeIfInUse_of_not_inUse (h : ¬(s.flag .patOpen = true ∧ s.variant = b)) : s.closeIfInUse b = s := by
  simp [State.closeIfInUse, h]

end CloseIfInUse

/-- Closing the pattern writes STATUS and MASK alone. -/
theorem closeIfInUse_frame (s : State) (b : Bool) :
    s.closeIfInUse b = { s with status := (s.closeIfInUse b).status, mask := (s.closeIfInUse b).mask } := by
  unfold State.closeIfInUse
  split <;> rfl

theorem bank_closeIfInUse (s : State) (b c : Bool) : (s.closeIfInUse b).bank c = s.bank c := by
  rw [closeIfInUse_frame]
  rfl

theorem variant_setEntry (s : State) (b : Bool) (e : BitVec 5) (x : FdtEntry) :
    (s.setEntry b e x).variant = s.variant :=
  State.flag_setEntry ..

theorem setEntry_frame (s : State) (b : Bool) (e : BitVec 5) (x : FdtEntry) :
    s.setEntry b e x = { s with fdt0 := (s.setEntry b e x).fdt0, fdt1 := (s.setEntry b e x).fdt1 } := by
  cases b <;> rfl

/-- The entry a write leaves: the word written without its reserved bits, the other word as it was. -/
def writtenEntry (x : FdtEntry) (hi : Bool) (v : Word) : FdtEntry :=
  if hi then ⟨x.word0, v &&& fdtWord1Mask⟩ else ⟨v &&& fdtWord0Mask, x.word1⟩

theorem step_fdtWrite {s : State} {b hi : Bool} {e : Fin 32} {v : Word} (hidle : s.flag .busy = false)
    (h : s.nextTxn = some (.csrWrite (0x100 + 0x100 * b.toNat + 8 * e.val + 4 * hi.toNat) v)) :
    step s = .next ((s.advance.setEntry b (.ofFin e) (writtenEntry ((s.bank b)[e]) hi v)).closeIfInUse b) := by
  cases hi with
  | false => exact step_csrWrite hidle h (csrAt_csrOffset (.fdtWord0 b (.ofFin e))) nofun
  | true => exact step_csrWrite hidle h (csrAt_csrOffset (.fdtWord1 b (.ofFin e))) nofun

theorem bank_setEntry_same (s : State) (b : Bool) (e : Fin 32) (x : FdtEntry) :
    ((s.setEntry b (.ofFin e) x).bank b)[e] = x := by
  simp [State.bank_setEntry]

theorem bank_setEntry_other (s : State) {b c : Bool} {e k : Fin 32} (x : FdtEntry) (h : ¬(c = b ∧ k = e)) :
    ((s.setEntry b (.ofFin e) x).bank c)[k] = (s.bank c)[k] := by
  rw [State.bank_setEntry]
  split
  next hcb =>
    have hk : e.val ≠ k.val := fun hk => h ⟨hcb, Fin.ext hk.symm⟩
    subst hcb
    exact Vector.getElem_set_ne (h := hk) ..
  next => rfl

/-- Settles O13: the entry is set, and then the pattern closed where the bank is in use. -/
theorem fdtWriteClosesPatternInUse : Obligations.FdtWriteClosesPatternInUse := by
  intro s b hi e v hidle h
  let u := s.advance.setEntry b (.ofFin e) (writtenEntry ((s.bank b)[e]) hi v)
  have hinUse : u.flag .patOpen = true ∧ u.variant = b ↔ s.flag .patOpen = true ∧ s.flag .patVariant = b := by
    simp only [u, State.flag_setEntry, variant_setEntry]
    rfl
  have hentry : ((u.closeIfInUse b).bank b)[e] = writtenEntry ((s.bank b)[e]) hi v := by
    rw [bank_closeIfInUse]
    exact bank_setEntry_same ..
  refine ⟨u.closeIfInUse b, step_fdtWrite hidle h, ?frame, ?word0, ?word1, fun c k hne => ?others, fun h => ?inUse,
    fun h => ?notInUse⟩
  case frame =>
    rw [closeIfInUse_frame]
    simp only [u]
    rw [setEntry_frame]
    rfl
  case word0 => rw [hentry]; cases hi <;> rfl
  case word1 => rw [hentry]; cases hi <;> rfl
  case others =>
    rw [bank_closeIfInUse]
    exact bank_setEntry_other _ _ hne
  case inUse =>
    obtain ⟨hopen, hb⟩ := hinUse.2 h
    rw [closeIfInUse_of_inUse hopen hb]
    exact ⟨by simp [u, putBit], rfl⟩
  case notInUse =>
    rw [closeIfInUse_of_not_inUse (mt hinUse.1 h)]
    exact ⟨by simp [u], by simp [u]⟩

/-! ### The framer state (10_state R32, R41) -/

/-- `t` has the framer state of `s`. -/
def SameFramer (s t : State) : Prop :=
  t.frameCur = s.frameCur ∧ t.frameEnd = s.frameEnd ∧ t.flag .frameActive = s.flag .frameActive

/-- A command of the framer, or SOFT_RESET: one that writes the framer state. -/
def writesFramer (i : Instr) : Prop := i = .frameReset ∨ i = .frameNext ∨ i = .softReset

theorem OutputOnly.sameFramer {s t : State} (h : OutputOnly s t) : SameFramer s t :=
  ⟨(congrArg State.frameCur h.frame :), (congrArg State.frameEnd h.frame :), h.flag_eq (by decide)⟩

theorem CommandEffect.sameFramer {i : Instr} {s t : State} (h : CommandEffect s i t) (hi : ¬writesFramer i) :
    SameFramer s t := by
  cases h with
  | output h | patWriteSafe _ _ _ _ _ h => exact h.sameFramer
  | frameReset | frameNext | softReset => exact absurd (by simp [writesFramer]) hi
  | fault => exact ⟨rfl, rfl, by simp⟩
  | patOpen =>
    exact ⟨rfl, rfl, (State.flag_setFlag _ .patOpen .frameActive true).trans (State.flag_setFlag _ .patVariant _ _)⟩
  | patClearStage => exact ⟨rfl, rfl, rfl⟩
  | patClose => exact ⟨rfl, rfl, by simp⟩

theorem closeIfInUse_sameFramer (s : State) (b : Bool) : SameFramer s (s.closeIfInUse b) := by
  unfold State.closeIfInUse
  split
  · exact ⟨rfl, rfl, by simp⟩
  · exact ⟨rfl, rfl, rfl⟩

theorem CsrWriteEffect.sameFramer {s t : State} (h : CsrWriteEffect s t) : SameFramer s t := by
  cases h with
  | readOnly | ctrl | operands => exact ⟨rfl, rfl, rfl⟩
  | status v =>
    have hmask : w1cMask.getLsbD StatusBit.frameActive.index = false := by decide
    exact ⟨rfl, rfl, by rw [State.flag_clearW1C, hmask]; simp⟩
  | fdt b e x =>
    obtain ⟨hc, he, ha⟩ := closeIfInUse_sameFramer (s.setEntry b e x) b
    exact ⟨by simpa using hc, by simpa using he, by simpa using ha⟩

theorem beginCommand_sameFramer (s : State) (w : Word) : SameFramer s (s.advance.beginCommand w) :=
  ⟨rfl, rfl, by simp⟩

theorem endCommand_sameFramer {s t : State} (h : SameFramer s t) : SameFramer s t.endCommand := by
  obtain ⟨hc, he, ha⟩ := h
  exact ⟨hc, he, by simpa using ha⟩

theorem SameFramer.trans {s t u : State} (h : SameFramer s t) (h' : SameFramer t u) : SameFramer s u := by
  obtain ⟨hc, he, ha⟩ := h
  obtain ⟨hc', he', ha'⟩ := h'
  exact ⟨hc'.trans hc, he'.trans he, ha'.trans ha⟩

/-- A step either keeps the framer state or performs a command that writes it. -/
theorem StepEffect.sameFramer {s t : State} (h : StepEffect s t)
    (hcmd : ∀ w i, s.nextCommand = some w → s.flag .busy = false → decode w = .ok i → ¬writesFramer i) :
    SameFramer s t := by
  cases h with
  | idle => exact ⟨rfl, rfl, rfl⟩
  | bus => exact ⟨by simp, by simp, by simp⟩
  | memWrite => exact ⟨rfl, rfl, rfl⟩
  | csrWrite h => exact h.sameFramer
  | command hw hidle hi h =>
    exact endCommand_sameFramer ((beginCommand_sameFramer ..).trans (h.sameFramer (hcmd _ _ hw hidle hi)))
  | illegal w n => exact ⟨rfl, rfl, by simp⟩

/-- Settles O19. -/
theorem framerStateChangesOnlyThroughItsCommands : Obligations.FramerStateChangesOnlyThroughItsCommands := by
  intro s t h hcmd
  refine (stepEffect_of_step h).sameFramer fun w i hw hidle hi => ?_
  obtain ⟨hreset, hnext, hsoft⟩ := hcmd w hw hidle
  rintro (rfl | rfl | rfl)
  exacts [hreset hi, hnext hi, hsoft hi]

/-! ### The parameters and MEM (10_state R34 to R36, 20_memory R60) -/

theorem params_closeIfInUse (s : State) (b : Bool) : (s.closeIfInUse b).params = s.params := by
  rw [closeIfInUse_frame]

theorem CsrWriteEffect.params_eq {s t : State} (h : CsrWriteEffect s t) : t.params = s.params := by
  cases h with
  | fdt b e x => rw [params_closeIfInUse, State.setEntry_params]
  | _ => rfl

theorem StepEffect.params_eq {s t : State} (h : StepEffect s t) : t.params = s.params := by
  cases h with
  | bus => simp
  | csrWrite h => exact h.params_eq
  | command _ _ _ h => exact h.params_eq
  | _ => rfl

theorem MemoryCanonical.of_eq {s t : State} (h : MemoryCanonical s) (hm : t.mem = s.mem) (hp : t.params = s.params) :
    MemoryCanonical t := by
  unfold MemoryCanonical
  rwa [hm, hp]

theorem OutputOnly.memoryCanonical {s t : State} (h : OutputOnly s t) (hs : MemoryCanonical s) : MemoryCanonical t := by
  induction h with
  | refl => exact hs
  | storeBytes h hfit ih => exact memoryCanonical_storeBytes ih (by rwa [Fits, h.params_eq])
  | setR0 _ ih | setR1 _ ih | setR2 _ ih | setR3 _ ih => exact ih
  | warnIf _ _ ih => exact ih.of_eq (by simp) (by simp)

theorem CommandEffect.memoryCanonical {i : Instr} {s t : State} (h : CommandEffect s i t) (hs : MemoryCanonical s) :
    MemoryCanonical t := by
  cases h with
  | output h | frameNext _ h | patWriteSafe _ _ _ _ _ h => exact h.memoryCanonical hs
  | _ => exact hs

theorem CsrWriteEffect.memoryCanonical {s t : State} (h : CsrWriteEffect s t) (hs : MemoryCanonical s) :
    MemoryCanonical t := by
  refine hs.of_eq ?_ h.params_eq
  cases h with
  | fdt b e x => rw [closeIfInUse_frame]; simp
  | _ => rfl

theorem StepEffect.memoryCanonical {s t : State} (h : StepEffect s t) (hs : MemoryCanonical s) : MemoryCanonical t := by
  cases h with
  | idle | illegal => exact hs
  | bus => exact hs.of_eq (by simp) (by simp)
  | memWrite v h => exact memoryCanonical_storeBytes (s := s.advance) hs (.inr h)
  | csrWrite h => exact h.memoryCanonical hs
  | command _ _ _ h => exact h.memoryCanonical hs

/-- Settles O21. -/
theorem stepKeepsMemoryCanonical : Obligations.StepKeepsMemoryCanonical := fun _ _ h =>
  ⟨(stepEffect_of_step h).params_eq, (stepEffect_of_step h).memoryCanonical⟩

/-! ### FRAME_CUR ≤ FRAME_END (10_state R32) -/

theorem FramerOrdered.of_sameFramer {s t : State} (hs : FramerOrdered s) (h : SameFramer s t) (hp : t.params = s.params) :
    FramerOrdered t := by
  obtain ⟨hc, he, ha⟩ := h
  unfold FramerOrdered
  rwa [hc, he, ha, hp]

theorem memBytes_le_of_wellFormed {p : Params} (h : p.wellFormed = true) : p.memBytes ≤ 2 ^ 31 := by
  simp only [Params.wellFormed, Bool.and_eq_true, decide_eq_true_eq] at h
  omega

/-- FRAME_RESET leaves an ordered framer: a range that fits ends below 2^32, so FRAME_END does not wrap. -/
theorem framerOrdered_frameReset {s : State} (hp : s.params.wellFormed = true) (hfit : Fits s s.a0.toNat s.a1.toNat) :
    FramerOrdered
      ({ s with frameCur := s.a0, frameEnd := BitVec.ofNat 32 (s.a0.toNat + s.a1.toNat) }.setFlag .frameActive true) := by
  intro _
  have hmem := memBytes_le_of_wellFormed hp
  have ha0 := s.a0.isLt
  have hend : (BitVec.ofNat 32 (s.a0.toNat + s.a1.toNat)).toNat = s.a0.toNat + s.a1.toNat := by
    rw [BitVec.toNat_ofNat]
    exact Nat.mod_eq_of_lt (by omega)
  simp only [State.setFlag_frameCur, State.setFlag_frameEnd, State.setFlag_params, hend]
  omega

theorem framerOrdered_setCur {s : State} {cur : Word} (hs : FramerOrdered s)
    (hcur : cur = s.frameEnd ∨ s.frameCur.toNat < s.frameEnd.toNat ∧ cur.toNat ≤ s.frameEnd.toNat) :
    FramerOrdered { s with frameCur := cur } := by
  intro hactive
  obtain ⟨-, hmem⟩ := hs hactive
  rcases hcur with rfl | ⟨hlt, hle⟩
  · exact ⟨le_rfl, fun h => absurd h (lt_irrefl _)⟩
  · exact ⟨hle, fun _ => hmem hlt⟩

theorem CommandEffect.framerOrdered {i : Instr} {s t : State} (h : CommandEffect s i t)
    (hp : s.params.wellFormed = true) (hs : FramerOrdered s) : FramerOrdered t := by
  by_cases hi : writesFramer i
  · cases h with
    | frameReset hfit => exact framerOrdered_frameReset hp hfit
    | frameNext hcur h => exact (framerOrdered_setCur hs hcur).of_sameFramer h.sameFramer h.params_eq
    | softReset => intro h; simp at h
    | output h => exact hs.of_sameFramer h.sameFramer h.params_eq
    | fault => exact hs.of_sameFramer ⟨rfl, rfl, by simp⟩ rfl
    | _ => simp [writesFramer] at hi
  · exact hs.of_sameFramer (h.sameFramer hi) h.params_eq

/-- Settles O23: a command that writes the framer state leaves it ordered, and nothing else touches it. -/
theorem stepKeepsFramerOrdered : Obligations.StepKeepsFramerOrdered := by
  intro s t hp hs hstep
  cases stepEffect_of_step hstep with
  | @command w i u _ _ _ h =>
    have hbegin : FramerOrdered (s.advance.beginCommand w) := hs.of_sameFramer (beginCommand_sameFramer s w) rfl
    exact (h.framerOrdered hp hbegin).of_sameFramer (endCommand_sameFramer ⟨rfl, rfl, rfl⟩) rfl
  | idle => exact hs
  | illegal => exact hs.of_sameFramer ⟨rfl, rfl, by simp⟩ rfl
  | bus => exact hs.of_sameFramer ⟨by simp, by simp, by simp⟩ (by simp)
  | memWrite => exact hs.of_sameFramer ⟨rfl, rfl, rfl⟩ rfl
  | csrWrite h => exact hs.of_sameFramer h.sameFramer h.params_eq

/-! ### The open pattern (43_pattern R171, R173, 10_state R40) -/

/-- `t` has the open pattern of `s`: its place, its size and the table in use. -/
structure SamePattern (s t : State) : Prop where
  params : t.params = s.params
  base : t.patBase = s.patBase
  size : t.patSize = s.patSize
  bank : t.bank t.variant = s.bank s.variant
  isOpen : t.flag .patOpen = s.flag .patOpen
  variant : t.variant = s.variant

theorem SamePattern.of_eq {s t : State} (hparams : t.params = s.params) (hbase : t.patBase = s.patBase)
    (hsize : t.patSize = s.patSize) (hbank : ∀ b, t.bank b = s.bank b)
    (hflag : ∀ b ∈ [StatusBit.patOpen, .patVariant], t.flag b = s.flag b) : SamePattern s t where
  params := hparams
  base := hbase
  size := hsize
  bank := (hbank _).trans (congrArg s.bank (hflag .patVariant (by decide)))
  isOpen := hflag .patOpen (by decide)
  variant := hflag .patVariant (by decide)

theorem SamePattern.trans {s t u : State} (h : SamePattern s t) (h' : SamePattern t u) : SamePattern s u where
  params := h'.params.trans h.params
  base := h'.base.trans h.base
  size := h'.size.trans h.size
  bank := h'.bank.trans h.bank
  isOpen := h'.isOpen.trans h.isOpen
  variant := h'.variant.trans h.variant

theorem OutputOnly.bank_eq {s t : State} (h : OutputOnly s t) (b : Bool) : t.bank b = s.bank b :=
  (congrArg (State.bank · b) h.frame :)

theorem OutputOnly.mask_eq {s t : State} (h : OutputOnly s t) : t.mask = s.mask :=
  (congrArg State.mask h.frame :)

theorem OutputOnly.samePattern {s t : State} (h : OutputOnly s t) : SamePattern s t :=
  .of_eq h.params_eq (congrArg State.patBase h.frame :) (congrArg State.patSize h.frame :) h.bank_eq
    fun _ hb => h.flag_eq ((by decide : ∀ b ∈ [StatusBit.patOpen, .patVariant], b ∉ commandWarnings) _ hb)

theorem setFlag_samePattern (s : State) {b : StatusBit} (hb : b ∉ [StatusBit.patOpen, .patVariant]) (v : Bool) :
    SamePattern s (s.setFlag b v) :=
  .of_eq rfl rfl rfl (fun _ => rfl) fun _ hc => (State.flag_setFlag ..).trans (if_neg (ne_of_mem_of_not_mem hc hb))

theorem beginCommand_samePattern (s : State) (w : Word) : SamePattern s (s.advance.beginCommand w) :=
  .of_eq rfl rfl rfl (fun _ => rfl) (by simp)

theorem endCommand_samePattern (s : State) : SamePattern s s.endCommand :=
  .of_eq rfl rfl rfl (fun _ => rfl) (by simp)

theorem raiseFault_samePattern (s : State) (c : FaultCode) (n : Nat) : SamePattern s (s.raiseFault c n) :=
  .of_eq rfl rfl rfl (fun _ => rfl) (by simp)

theorem bus_samePattern (s : State) (rejected : Bool) (v : Word) :
    SamePattern s ((s.advance.warnIf rejected .wBusErr).returned v) :=
  .of_eq (by simp) (by simp) (by simp) (fun _ => by cases rejected <;> rfl) (by simp)

/-- What a host write of a register does to the pattern: it closes it, finds it closed, or leaves it (10_state R40). -/
theorem CsrWriteEffect.pattern_cases {s t : State} (h : CsrWriteEffect s t) :
    (t.flag .patOpen = false ∧ t.mask = []) ∨
    (t.flag .patOpen = false ∧ s.flag .patOpen = false ∧ t.mask = s.mask) ∨
    (SamePattern s t ∧ t.mask = s.mask) := by
  cases h with
  | readOnly | ctrl | operands => exact .inr (.inr ⟨.of_eq rfl rfl rfl (fun _ => rfl) fun _ _ => rfl, rfl⟩)
  | status v =>
    have hmask : ∀ b ∈ [StatusBit.patOpen, .patVariant], w1cMask.getLsbD b.index = false := by decide
    refine .inr (.inr ⟨.of_eq rfl rfl rfl (fun _ => rfl) fun b hb => ?_, rfl⟩)
    rw [State.flag_clearW1C, hmask b hb]
    simp
  | fdt b e x =>
    by_cases hin : (s.setEntry b e x).flag .patOpen = true ∧ (s.setEntry b e x).variant = b
    · obtain ⟨hopen, hb⟩ := hin
      rw [closeIfInUse_of_inUse hopen hb]
      exact .inl ⟨by simp, rfl⟩
    · rw [closeIfInUse_of_not_inUse hin]
      rw [State.flag_setEntry, variant_setEntry] at hin
      cases hopen : s.flag .patOpen with
      | false => exact .inr (.inl ⟨by simp [hopen], rfl, by simp⟩)
      | true =>
        have hne : s.variant ≠ b := fun hb => hin ⟨hopen, hb⟩
        refine .inr (.inr ⟨⟨by simp, by simp, by simp, ?_, by simp, variant_setEntry ..⟩, by simp⟩)
        rw [variant_setEntry, State.bank_setEntry, if_neg hne]

theorem OpenPatternValid.of_samePattern {s t : State} (hs : OpenPatternValid s) (h : SamePattern s t) :
    OpenPatternValid t := by
  unfold OpenPatternValid
  rwa [h.params, h.base, h.size, h.bank, h.isOpen, h.variant]

theorem openPatternValid_of_closed {s : State} (h : s.flag .patOpen = false) : OpenPatternValid s :=
  fun hopen => absurd (h.symm.trans hopen) Bool.false_ne_true

theorem sizeVariant_pos {p : Params} (hp : p.wellFormed = true) {n : Nat} {b : Bool} (h : sizeVariant p n = some b) :
    0 < n := by
  simp only [Params.wellFormed, Bool.and_eq_true, decide_eq_true_eq] at hp
  unfold sizeVariant at h
  split at h
  next => omega
  next =>
    split at h
    next => omega
    next => cases h

/-- The commands that open or close a pattern. -/
def writesPattern (i : Instr) : Prop := i = .patOpen ∨ i = .patClose ∨ i = .softReset

theorem CommandEffect.samePattern {i : Instr} {s t : State} (h : CommandEffect s i t) (hi : ¬writesPattern i) :
    SamePattern s t := by
  cases h with
  | fault => exact raiseFault_samePattern ..
  | output h => exact h.samePattern
  | frameReset =>
    refine .trans ?_ (setFlag_samePattern _ (by decide) true)
    exact .of_eq rfl rfl rfl (fun _ => rfl) fun _ _ => rfl
  | frameNext _ h | patWriteSafe _ _ _ _ _ h =>
    refine .trans ?_ h.samePattern
    exact .of_eq rfl rfl rfl (fun _ => rfl) fun _ _ => rfl
  | patClearStage => exact .of_eq rfl rfl rfl (fun _ => rfl) fun _ _ => rfl
  | patOpen | patClose | softReset => exact absurd (by simp [writesPattern]) hi

/-- PAT_OPEN has checked all that an open pattern must meet. -/
theorem openPatternValid_patOpen {s : State} {b : Bool} (hp : s.params.wellFormed = true)
    (hsize : sizeVariant s.params s.a1.toNat = some b) (hfit : Fits s s.a0.toNat s.a1.toNat)
    (hvalid : validateFdt (s.bank b) s.a1.toNat = none) :
    OpenPatternValid
      ((({ s with patBase := s.a0, patSize := s.a1 }.setFlag .patVariant b).setFlag .patOpen true).clearStage.setR0
        b.toNat) := by
  intro _
  have hvar : ((({ s with patBase := s.a0, patSize := s.a1 }.setFlag .patVariant b).setFlag .patOpen
      true).clearStage.setR0 b.toNat).variant = b := by
    simp [State.variant]
  rw [hvar]
  exact ⟨hsize, hfit.resolve_left (sizeVariant_pos hp hsize).ne', hvalid⟩

theorem CommandEffect.openPatternValid {i : Instr} {s t : State} (h : CommandEffect s i t)
    (hp : s.params.wellFormed = true) (hs : OpenPatternValid s) : OpenPatternValid t := by
  by_cases hi : writesPattern i
  · cases h with
    | patOpen hsize hfit hvalid => exact openPatternValid_patOpen hp hsize hfit hvalid
    | patClose | softReset => exact openPatternValid_of_closed (by simp)
    | fault => exact hs.of_samePattern (raiseFault_samePattern ..)
    | output h => exact hs.of_samePattern h.samePattern
    | _ => simp [writesPattern] at hi
  · exact hs.of_samePattern (h.samePattern hi)

/-- Settles O24: PAT_OPEN checks what it opens, and a write to the bank in use closes the pattern. -/
theorem stepKeepsOpenPatternValid : Obligations.StepKeepsOpenPatternValid := by
  intro s t hp hs hstep
  cases stepEffect_of_step hstep with
  | @command w i u _ _ _ h =>
    have hbegin : OpenPatternValid (s.advance.beginCommand w) := hs.of_samePattern (beginCommand_samePattern s w)
    exact (h.openPatternValid hp hbegin).of_samePattern (endCommand_samePattern u)
  | illegal w n =>
    exact ((hs.of_samePattern (beginCommand_samePattern s w)).of_samePattern
      (raiseFault_samePattern ..)).of_samePattern (endCommand_samePattern _)
  | idle => exact hs
  | bus rejected v => exact hs.of_samePattern (bus_samePattern s rejected v)
  | memWrite => exact hs
  | csrWrite h =>
    rcases h.pattern_cases with ⟨hclosed, -⟩ | ⟨hclosed, -⟩ | ⟨hsame, -⟩
    · exact openPatternValid_of_closed hclosed
    · exact openPatternValid_of_closed hclosed
    · exact OpenPatternValid.of_samePattern (s := s.advance) hs hsame

/-! ### MASK (10_state R43, 43_pattern R181, R182) -/

theorem StageDisciplined.of_samePattern {s t : State} (hs : StageDisciplined s) (h : SamePattern s t)
    (hm : t.mask = s.mask) : StageDisciplined t := by
  unfold StageDisciplined CoveredWritable
  rwa [h.isOpen, hm, h.bank]

theorem StageDisciplined.mask_nil {s : State} (hs : StageDisciplined s) (h : s.flag .patOpen = false) : s.mask = [] :=
  hs.1 h

theorem stageDisciplined_of_mask_nil {s : State} (h : s.mask = []) : StageDisciplined s := by
  simp [StageDisciplined, h]

/-- A bank that passes validation has every VALID entry legal (43_pattern R173, V1 to V5). -/
theorem entryLegal_of_validateFdt {bank : FdtBank} {size : Nat} (h : validateFdt bank size = none) (k : Fin 32)
    (hvalid : (bank[k]).valid = true) : entryLegal size bank[k] = true := by
  unfold validateFdt at h
  dsimp only at h
  split at h
  next => cases h
  next hnone =>
    have hk := List.findIdx?_eq_none_iff.1 hnone bank[k] (by simp)
    rw [hvalid, Bool.true_and, Bool.not_eq_false'] at hk
    exact hk

/-- In an open pattern a VALID entry that is not PRESERVE is writable: validation has shut out CLASS 3. -/
theorem writable_of_openPatternValid {s : State} (hs : OpenPatternValid s) (hopen : s.flag .patOpen = true) {k : Fin 32}
    (hvalid : ((s.bank s.variant)[k]).valid = true) (hcls : ((s.bank s.variant)[k]).cls ≠ .preserve) :
    ((s.bank s.variant)[k]).writable = true := by
  obtain ⟨-, -, hbank⟩ := hs hopen
  have hlegal := entryLegal_of_validateFdt hbank k hvalid
  have hres : ((s.bank s.variant)[k]).cls ≠ .reserved := by
    simp only [entryLegal, Bool.and_eq_true, bne_iff_ne] at hlegal
    tauto
  unfold FdtEntry.writable
  cases hc : ((s.bank s.variant)[k]).cls with
  | preserve => exact absurd hc hcls
  | reserved => exact absurd hc hres
  | safe | provisional => rfl

/-- Element `i` of an entry lies inside the bytes that the entry covers. -/
theorem elem_in_entry {x : FdtEntry} {i j : Nat} (hi : i < x.count) (hlo : x.start + i * x.elemLen ≤ j)
    (hhi : j < x.start + i * x.elemLen + x.elemLen) : x.start ≤ j ∧ j < x.start + x.size := by
  have hend : (i + 1) * x.elemLen ≤ x.count * x.elemLen := Nat.mul_le_mul_right _ hi
  rw [Nat.succ_mul] at hend
  rw [FdtEntry.size, Nat.mul_comm x.elemLen]
  omega

/-- Staging an element of a writable entry keeps MASK rising and within writable entries. -/
theorem stageDisciplined_stage {s : State} {k : Fin 32} {vs : List Byte} {i : Nat} (hs : StageDisciplined s)
    (hopen : s.flag .patOpen = true) (hvalid : ((s.bank s.variant)[k]).valid = true)
    (hwritable : ((s.bank s.variant)[k]).writable = true) (hi : i < ((s.bank s.variant)[k]).count)
    (hlen : vs.length = ((s.bank s.variant)[k]).elemLen) :
    StageDisciplined
      (s.stage (((s.bank s.variant)[k]).start + i * ((s.bank s.variant)[k]).elemLen) vs) := by
  obtain ⟨-, hrising, hcovered⟩ := hs
  refine ⟨fun hclosed => ?_, pairwise_foldl_offsetInsert _ hrising, fun j hj => ?_⟩
  · rw [State.flag_stage, hopen] at hclosed
    cases hclosed
  · rw [State.stage_mask, mem_foldl_offsetInsert, List.mem_range'_1, hlen] at hj
    rcases hj with ⟨hlo, hhi⟩ | hj
    · exact ⟨k, hvalid, hwritable, elem_in_entry hi hlo hhi⟩
    · exact hcovered j hj

theorem CommandEffect.stageDisciplined {i : Instr} {s t : State} (h : CommandEffect s i t) (hv : OpenPatternValid s)
    (hs : StageDisciplined s) : StageDisciplined t := by
  cases h with
  | fault => exact hs.of_samePattern (raiseFault_samePattern ..) rfl
  | output h => exact hs.of_samePattern h.samePattern h.mask_eq
  | frameReset hfit => exact hs.of_samePattern ((CommandEffect.frameReset hfit).samePattern (by simp [writesPattern])) rfl
  | frameNext hcur h =>
    exact hs.of_samePattern ((CommandEffect.frameNext hcur h).samePattern (by simp [writesPattern])) h.mask_eq
  | patOpen | patClearStage | patClose | softReset => exact stageDisciplined_of_mask_nil rfl
  | @patWriteSafe fid _ _ hopen hvalid hidx hcls hlen h =>
    have hwritable := writable_of_openPatternValid hv hopen (k := fid.toFin) hvalid hcls
    exact (stageDisciplined_stage hs hopen (k := fid.toFin) hvalid hwritable hidx hlen).of_samePattern
      h.samePattern h.mask_eq

/-- Settles O25: PAT_WRITE_SAFE stages bytes of a writable entry alone, and whatever closes the pattern empties MASK. -/
theorem stepKeepsStageDisciplined : Obligations.StepKeepsStageDisciplined := by
  intro s t _ hv hs hstep
  cases stepEffect_of_step hstep with
  | @command w i u _ _ _ h =>
    have hbegin := beginCommand_samePattern s w
    exact (h.stageDisciplined (hv.of_samePattern hbegin) (hs.of_samePattern hbegin rfl)).of_samePattern
      (endCommand_samePattern u) rfl
  | illegal w n =>
    exact ((hs.of_samePattern (beginCommand_samePattern s w) rfl).of_samePattern
      (raiseFault_samePattern ..) rfl).of_samePattern (endCommand_samePattern _) rfl
  | idle => exact hs
  | bus rejected v => exact hs.of_samePattern (bus_samePattern s rejected v) (by simp)
  | memWrite => exact hs
  | csrWrite h =>
    rcases h.pattern_cases with ⟨-, hnil⟩ | ⟨-, hclosed, hmask⟩ | ⟨hsame, hmask⟩
    · exact stageDisciplined_of_mask_nil hnil
    · exact stageDisciplined_of_mask_nil (hmask.trans (hs.mask_nil hclosed))
    · exact StageDisciplined.of_samePattern (s := s.advance) hs hsame hmask

/-! ### Reserved bits (10_state R22, R24, R26, R37, R38) -/

/-- The reserved bits of STATUS. -/
def State.reservedStatus (s : State) : Word := s.status &&& 0xFFF8E0F8#32

theorem putBit_and_of_clear {w m : Word} {i : Nat} {b : Bool} (hi : i < 32) (hm : m.getLsbD i = false) :
    putBit w i b &&& m = w &&& m := by
  apply BitVec.eq_of_getLsbD_eq
  intro j _
  rw [BitVec.getLsbD_and, BitVec.getLsbD_and, getLsbD_putBit _ _ _ _ hi]
  split
  next h => subst h; simp [hm]
  next => rfl

@[simp] theorem State.reservedStatus_setFlag (s : State) (b : StatusBit) (v : Bool) :
    (s.setFlag b v).reservedStatus = s.reservedStatus :=
  putBit_and_of_clear b.index_lt (by cases b <;> decide)

@[simp] theorem State.reservedStatus_warnIf (s : State) (c : Bool) (b : StatusBit) :
    (s.warnIf c b).reservedStatus = s.reservedStatus := by
  cases c
  · rfl
  · exact s.reservedStatus_setFlag b true

theorem OutputOnly.reservedStatus_eq {s t : State} (h : OutputOnly s t) : t.reservedStatus = s.reservedStatus := by
  induction h with
  | refl => rfl
  | storeBytes _ _ ih | setR0 _ ih | setR1 _ ih | setR2 _ ih | setR3 _ ih => exact ih
  | warnIf _ _ ih => simpa using ih

/-- ReservedBitsClear apart from BUSY, which is 1 inside a command. -/
structure ReservedBitsZero (s : State) : Prop where
  status : s.reservedStatus = 0#32
  err : s.err &&& 0xFFFF0000#32 = 0#32
  ctrl : s.ctrl &&& 0xFFFFFFF0#32 = 0#32
  fdt : FdtBitsClear s

theorem and_one_eq_zero_iff {w : Word} : w &&& 1#32 = 0#32 ↔ w.getLsbD 0 = false := by
  rw [BitVec.and_one_eq_setWidth_ofBool_getLsbD]
  cases w.getLsbD 0 <;> decide

theorem reservedBitsClear_iff {s : State} : ReservedBitsClear s ↔ ReservedBitsZero s ∧ s.flag .busy = false := by
  have hmask : s.status &&& 0xFFF8E0F9#32 = s.reservedStatus ||| (s.status &&& 1#32) :=
    (congrArg (s.status &&& ·) (by decide : 0xFFF8E0F9#32 = 0xFFF8E0F8#32 ||| 1#32)).trans BitVec.and_or_distrib_left
  have hstatus : s.status &&& 0xFFF8E0F9#32 = 0#32 ↔ s.reservedStatus = 0#32 ∧ s.flag .busy = false := by
    rw [hmask, BitVec.or_eq_zero_iff, and_one_eq_zero_iff]
    rfl
  constructor
  · rintro ⟨⟨hst, herr, hctrl⟩, hfdt⟩
    obtain ⟨hres, hbusy⟩ := hstatus.1 hst
    exact ⟨⟨hres, herr, hctrl, hfdt⟩, hbusy⟩
  · rintro ⟨⟨hres, herr, hctrl, hfdt⟩, hbusy⟩
    exact ⟨⟨hstatus.2 ⟨hres, hbusy⟩, herr, hctrl⟩, hfdt⟩

/-- ERR as fault entry writes it has bits [31:16] at 0 (10_state R24). -/
theorem faultWord_reserved (op code : Byte) : (0#16 ++ op ++ code : Word) &&& 0xFFFF0000#32 = 0#32 := by
  have hlt : (0#16 ++ op ++ code : Word).toNat < 2 ^ 16 := by
    rw [toNat_append_byte, toNat_append_byte]
    have hop := op.isLt
    have hcode := code.isLt
    simp only [BitVec.toNat_ofNat, Nat.zero_mod]
    omega
  have hmask : ∀ i < 16, (0xFFFF0000#32).getLsbD i = false := by decide
  apply BitVec.eq_of_getLsbD_eq
  intro i _
  rw [BitVec.getLsbD_and, BitVec.getLsbD_zero]
  by_cases hi : i < 16
  · rw [hmask i hi, Bool.and_false]
  · rw [BitVec.getLsbD, Nat.testBit_lt_two_pow (hlt.trans_le (Nat.pow_le_pow_right two_pos (by omega))), Bool.false_and]

namespace ReservedBitsZero

variable {s t : State}

theorem of_eq (hs : ReservedBitsZero s) (hstatus : t.reservedStatus = s.reservedStatus) (herr : t.err = s.err)
    (hctrl : t.ctrl = s.ctrl) (hbank : ∀ b, t.bank b = s.bank b) : ReservedBitsZero t where
  status := hstatus.trans hs.status
  err := herr ▸ hs.err
  ctrl := hctrl ▸ hs.ctrl
  fdt b i := by rw [hbank]; exact hs.fdt b i

theorem raiseFault (hs : ReservedBitsZero s) (c : FaultCode) (n : Nat) : ReservedBitsZero (s.raiseFault c n) where
  status := (((s.setFlag .err true).reservedStatus_setFlag .errSticky true).trans
    (s.reservedStatus_setFlag .err true)).trans hs.status
  err := faultWord_reserved ..
  ctrl := hs.ctrl
  fdt := hs.fdt

theorem beginCommand (hs : ReservedBitsZero s) (w : Word) : ReservedBitsZero (s.beginCommand w) where
  status := (((s.setFlag .err false).reservedStatus_setFlag .busy true).trans
    (s.reservedStatus_setFlag .err false)).trans hs.status
  err := BitVec.zero_and
  ctrl := hs.ctrl
  fdt := hs.fdt

theorem softReset (s : State) : ReservedBitsZero s.softReset where
  status := BitVec.zero_and
  err := BitVec.zero_and
  ctrl := (by decide : 0x00000004#32 &&& 0xFFFFFFF0#32 = 0#32)
  fdt b i := by rw [State.bank_softReset]; simp [EntryBitsClear]

theorem setFlag (hs : ReservedBitsZero s) (b : StatusBit) (v : Bool) : ReservedBitsZero (s.setFlag b v) :=
  hs.of_eq (s.reservedStatus_setFlag b v) rfl rfl fun _ => rfl

theorem of_outputOnly (hs : ReservedBitsZero s) (h : OutputOnly s t) : ReservedBitsZero t :=
  hs.of_eq h.reservedStatus_eq (congrArg State.err h.frame :) (congrArg State.ctrl h.frame :) h.bank_eq

end ReservedBitsZero

theorem CommandEffect.reservedBitsZero {i : Instr} {s t : State} (h : CommandEffect s i t) (hs : ReservedBitsZero s) :
    ReservedBitsZero t := by
  cases h with
  | fault _ c n => exact hs.raiseFault c n
  | output h => exact hs.of_outputOnly h
  | frameReset =>
    refine .setFlag ?_ .frameActive true
    exact hs.of_eq rfl rfl rfl fun _ => rfl
  | frameNext _ h | patWriteSafe _ _ _ _ _ h =>
    refine .of_outputOnly ?_ h
    exact hs.of_eq rfl rfl rfl fun _ => rfl
  | patOpen =>
    have hopen : ReservedBitsZero { s with patBase := s.a0, patSize := s.a1 } := hs.of_eq rfl rfl rfl fun _ => rfl
    exact ((hopen.setFlag ..).setFlag ..).of_eq rfl rfl rfl fun _ => rfl
  | patClearStage => exact hs.of_eq rfl rfl rfl fun _ => rfl
  | patClose => exact (hs.setFlag .patOpen false).of_eq rfl rfl rfl fun _ => rfl
  | softReset => exact .softReset s

theorem reservedBitsZero_setEntry {s : State} (hs : ReservedBitsZero s) {b : Bool} {e : BitVec 5} {x : FdtEntry}
    (hx : EntryBitsClear x) : ReservedBitsZero (s.setEntry b e x) where
  status := by simpa [State.reservedStatus] using hs.status
  err := by simpa using hs.err
  ctrl := by simpa using hs.ctrl
  fdt c k := by
    by_cases h : c = b ∧ k = e.toFin
    · obtain ⟨rfl, rfl⟩ := h
      exact (bank_setEntry_same s c e.toFin x).symm ▸ hx
    · exact (bank_setEntry_other s x h).symm ▸ hs.fdt c k

theorem CsrWriteEffect.reservedBitsZero {s t : State} (h : CsrWriteEffect s t) (hs : ReservedBitsZero s) :
    ReservedBitsZero t := by
  cases h with
  | readOnly => exact hs
  | operands => exact hs.of_eq rfl rfl rfl fun _ => rfl
  | status v =>
    refine ⟨?_, hs.err, hs.ctrl, hs.fdt⟩
    rw [State.reservedStatus, State.clearW1C_status, BitVec.and_assoc, BitVec.and_comm (~~~_), ← BitVec.and_assoc]
    exact (congrArg (· &&& _) hs.status).trans BitVec.zero_and
  | ctrl v => exact ⟨hs.status, hs.err, and_mask_and (by decide), hs.fdt⟩
  | fdt b e x hclear =>
    have hset := reservedBitsZero_setEntry (b := b) (e := e) hs (hclear (hs.fdt b e.toFin))
    unfold State.closeIfInUse
    split
    · exact (hset.setFlag .patOpen false).of_eq rfl rfl rfl fun _ => rfl
    · exact hset

theorem CsrWriteEffect.busy_eq {s t : State} (h : CsrWriteEffect s t) : t.flag .busy = s.flag .busy := by
  cases h with
  | readOnly | ctrl | operands => rfl
  | status v =>
    have hmask : w1cMask.getLsbD StatusBit.busy.index = false := by decide
    rw [State.flag_clearW1C, hmask]
    simp
  | fdt b e x =>
    unfold State.closeIfInUse
    split <;> simp

/-- Settles O22: every write keeps the reserved bits at 0, and a command ends by clearing BUSY. -/
theorem stepKeepsReservedBitsClear : Obligations.StepKeepsReservedBitsClear := by
  intro s t hs hstep
  rw [reservedBitsClear_iff] at hs ⊢
  obtain ⟨hzero, hbusy⟩ := hs
  have hadv : ReservedBitsZero s.advance := hzero.of_eq rfl rfl rfl fun _ => rfl
  cases stepEffect_of_step hstep with
  | idle => exact ⟨hzero, hbusy⟩
  | bus rejected v =>
    exact ⟨hzero.of_eq (s.advance.reservedStatus_warnIf rejected .wBusErr) (by simp) (by simp)
      fun _ => by cases rejected <;> rfl, by simpa using hbusy⟩
  | memWrite => exact ⟨hadv.of_eq rfl rfl rfl fun _ => rfl, hbusy⟩
  | csrWrite h => exact ⟨h.reservedBitsZero hadv, h.busy_eq.trans hbusy⟩
  | @command w i u _ _ _ h => exact ⟨(h.reservedBitsZero (hadv.beginCommand w)).setFlag .busy false, by simp⟩
  | illegal w n => exact ⟨((hadv.beginCommand w).raiseFault .illegalCommand n).setFlag .busy false, by simp⟩

end Sys2Proof.Machine
end

section
/-! Proofs for 20_memory: the host's reads and writes of MEM (R74), and the steps that leave MEM alone (R66, R69). -/

namespace Sys2Proof.Machine

/-! ### HOST_MEM_READ and HOST_MEM_WRITE (20_memory R74) -/

section HostMemory

variable {s : State} {a : Nat} {v : Byte}

/-- A byte can be read only below P_MEM_BYTES. -/
theorem lt_memBytes_of_peek (h : s.peek a = some v) : a < s.params.memBytes := by
  by_contra hge
  simp [State.peek, hge] at h

theorem cellRead_eq_peek (ha : a < s.params.memBytes) : cellRead s.mem a = s.peek a := by
  rw [State.peek, if_pos ha]

theorem hostMemRead_written (h : s.peek a = some v) : hostMemRead s a = .next (s.returned (v.setWidth 32)) := by
  have ha : a < s.params.memBytes := lt_memBytes_of_peek h
  rw [hostMemRead, if_pos ha, cellRead_eq_peek ha, h]

theorem hostMemRead_unwritten (ha : a < s.params.memBytes) (h : s.peek a = none) :
    hostMemRead s a = .fault (.uninitRead a) := by
  rw [hostMemRead, if_pos ha, cellRead_eq_peek ha, h]

theorem hostMemRead_outside (ha : s.params.memBytes ≤ a) : hostMemRead s a = .next (s.busError.returned 0#32) :=
  if_neg (Nat.not_lt.2 ha)

theorem hostMemWrite_inside (ha : a < s.params.memBytes) : hostMemWrite s a v = .next (s.storeBytes a [v]) :=
  if_pos ha

theorem hostMemWrite_outside (ha : s.params.memBytes ≤ a) : hostMemWrite s a v = .next s.busError :=
  if_neg (Nat.not_lt.2 ha)

end HostMemory

/-- Settles O7: below P_MEM_BYTES the access reads or stores the byte, and from there on the bus rejects it. -/
theorem hostMemoryAccess : Obligations.HostMemoryAccess := by
  refine fun s hidle => ⟨fun a h => ⟨fun v hv => ?written, fun ha hnone => ?unwritten, fun ha => ?readOutside⟩,
    fun a v h => ⟨fun ha => ?writeInside, fun ha => ?writeOutside⟩⟩ <;> rw [step_of_nextTxn hidle h]
  case written => exact hostMemRead_written (s := s.advance) hv
  case unwritten => exact hostMemRead_unwritten (s := s.advance) ha hnone
  case readOutside => exact hostMemRead_outside (s := s.advance) ha
  case writeInside =>
    exact ⟨s.advance.storeBytes a [v], hostMemWrite_inside (s := s.advance) ha, rfl,
      storedAt_of_fits (s := s) rfl rfl (.inr ha)⟩
  case writeOutside => exact hostMemWrite_outside (s := s.advance) ha

/-! ### What leaves MEM alone (20_memory R66, R69) -/

@[simp] theorem State.takeScan_mem (s : State) (r : Scan) : (s.takeScan r).mem = s.mem := by
  cases r <;> simp [State.takeScan]

/-- The body of a command that writes no output to MEM leaves MEM as it was. -/
theorem mem_eq_of_bodyOf {i : Instr} {s t : State} (hi : writesMemory i = false) (h : bodyOf i s = .ok t) :
    t.mem = s.mem := by
  cases i with
  | pack | unpack | decodeBulk | encodeBulk | encodeInit | encodeClose | patGet | patOverlay => cases hi
  | nop | patClearStage | patClose | softReset => cases h; rfl
  | checksum => obtain ⟨_, -, -, -, rfl⟩ := checksumBody_eq_ok.1 h; rfl
  | verify => obtain ⟨-, _, -, -, -, rfl⟩ := verifyBody_eq_ok.1 h; rfl
  | frameReset => obtain ⟨-, rfl⟩ := frameResetBody_eq_ok.1 h; rfl
  | frameNext => obtain ⟨-, r, -, rfl⟩ := frameNextBody_eq_ok.1 h; exact s.takeScan_mem r
  | classify => obtain ⟨_, -, -, -, rfl⟩ := classifyBody_eq_ok.1 h; rfl
  | patOpen => obtain ⟨_, -, -, -, -, -, rfl⟩ := patOpenBody_eq_ok.1 h; rfl
  | patSectionEnabled => obtain ⟨-, -, -, -, _, -, rfl⟩ := patSectionEnabledBody_eq_ok.1 h; rfl
  | patWriteSafe => obtain ⟨-, -, -, -, -, -, _, -, -, rfl⟩ := patWriteSafeBody_eq_ok.1 h; rfl

/-- Fault entry leaves MEM as it was too (60_exceptions R210), so a command that writes no output does whichever way it ends. -/
theorem mem_eq_of_exec {i : Instr} {s t : State} (hi : writesMemory i = false) (h : exec i s = .next t) :
    t.mem = s.mem := by
  rw [exec_eq_commit, commit_eq_next] at h
  rcases h with h | ⟨c, n, -, rfl⟩
  · exact mem_eq_of_bodyOf hi h
  · rfl

theorem mem_eq_of_runCommand {s t : State} {w : Word} (hw : ∀ i, decode w = .ok i → writesMemory i = false)
    (h : runCommand w s = .next t) : t.mem = s.mem := by
  obtain ⟨u, hrun, rfl⟩ := onNext_eq_next.1 h
  unfold runWord at hrun
  split at hrun
  next i hi => exact (mem_eq_of_exec (hw i hi) hrun :)
  next => cases hrun; rfl

theorem CsrWriteEffect.mem_eq {s t : State} (h : CsrWriteEffect s t) : t.mem = s.mem := by
  cases h with
  | fdt b e x => rw [closeIfInUse_frame, State.setEntry_mem]
  | _ => rfl

theorem mem_eq_of_hostMemRead {s t : State} {a : Nat} (h : hostMemRead s a = .next t) : t.mem = s.mem := by
  unfold hostMemRead at h
  split at h
  next =>
    split at h
    next => cases h; rfl
    next => cases h
  next => cases h; rfl

theorem mem_eq_of_hostCsrRead {s t : State} {off : Nat} (h : hostCsrRead s off = .next t) : t.mem = s.mem := by
  unfold hostCsrRead at h
  split at h <;> cases h <;> rfl

/-- A write of a register changes MEM only where it runs a command that writes MEM. -/
theorem mem_eq_of_hostCsrWrite {s t : State} {off : Nat} {v : Word}
    (hcmd : off = 0 → ∀ i, decode v = .ok i → writesMemory i = false) (h : hostCsrWrite s off v = .next t) :
    t.mem = s.mem := by
  cases hc : csrAt off with
  | none =>
    simp only [hostCsrWrite, hc] at h
    cases h
    rfl
  | some c =>
    by_cases hne : c = .cmd
    · subst hne
      obtain rfl := eq_zero_of_csrAt_cmd hc
      exact mem_eq_of_runCommand (hcmd rfl) h
    · rw [hostCsrWrite_of_ne_cmd hc hne] at h
      cases h
      exact (csrWriteEffect_writeCsr s c v).mem_eq

/-- A transaction that the bus rejects or answers while a command is in progress leaves MEM as it was (70_reset R247). -/
theorem mem_eq_of_performBusy {s t : State} {txn : HostTxn} (h : performBusy s txn = .next t) : t.mem = s.mem := by
  cases txn with
  | memRead | memWrite | csrWrite => cases h; rfl
  | csrRead off =>
    simp only [performBusy] at h
    split at h <;> cases h <;> rfl

/-- A step that performs neither a MEM write nor a command that writes MEM leaves the cells of MEM as they were. -/
theorem mem_eq_of_step {s t : State} (h : step s = .next t) (hwrite : ∀ a v, s.nextTxn ≠ some (.memWrite a v))
    (hcmd : ∀ w i, s.nextCommand = some w → decode w = .ok i → writesMemory i = false) : t.mem = s.mem := by
  cases hnext : s.nextTxn with
  | none =>
    simp only [step, hnext] at h
    cases h
    rfl
  | some txn =>
    cases hidle : s.flag .busy with
    | true =>
      simp only [step, hnext, perform, State.flag_advance, hidle] at h
      exact (mem_eq_of_performBusy h :)
    | false =>
      rw [step_of_nextTxn hidle hnext] at h
      cases txn with
      | memRead a => exact (mem_eq_of_hostMemRead h :)
      | memWrite a v => exact absurd hnext (hwrite a v)
      | csrRead off => exact (mem_eq_of_hostCsrRead h :)
      | csrWrite off w =>
        refine (mem_eq_of_hostCsrWrite (fun hoff i => hcmd w i ?_) h :)
        subst hoff
        simp [State.nextCommand, hnext]

/-- Settles O20: such a step keeps the cells of MEM, and no step changes P_MEM_BYTES. -/
theorem onlyWritersChangeMemory : Obligations.OnlyWritersChangeMemory := fun _ _ h hwrite hcmd =>
  sameMemory_of_eq (mem_eq_of_step h hwrite hcmd) (stepEffect_of_step h).params_eq

end Sys2Proof.Machine
end

section
/-! Proofs for 30_encoding: the three formats and their fields (R81 to R85), the opcode map and the opcode table (R84,
R86). -/

namespace Sys2Proof

/-! ### A word as its format's fields (30_encoding R81 to R85) -/

theorem append_fields_C0 (w : Word) : w.extractLsb' 8 24 ++ opField w = w :=
  (BitVec.extractLsb'_append_extractLsb'_eq_extractLsb' (rfl : 8 = 0 + 8)).trans BitVec.extractLsb'_eq_self

theorem append_fields_CD (w : Word) : w.extractLsb' 12 20 ++ devField w ++ opField w = w := by
  rw [devField, BitVec.extractLsb'_append_extractLsb'_eq_extractLsb' (rfl : 12 = 8 + 4)]
  exact append_fields_C0 w

theorem append_fields_CF (w : Word) : w.extractLsb' 21 11 ++ fidField w ++ w.extractLsb' 8 8 ++ opField w = w := by
  rw [fidField, BitVec.extractLsb'_append_extractLsb'_eq_extractLsb' (rfl : 21 = 16 + 5),
    BitVec.extractLsb'_append_extractLsb'_eq_extractLsb' (rfl : 16 = 8 + 8)]
  exact append_fields_C0 w

@[simp] theorem opField_append (hi : BitVec 24) (op : Byte) : opField (hi ++ op) = op :=
  BitVec.extractLsb'_append_eq_right

/-- A field above OP is a field of the bits above OP. -/
theorem extractLsb'_append_op (hi : BitVec 24) (op : Byte) (start len : Nat) :
    (hi ++ op : Word).extractLsb' (start + 8) len = hi.extractLsb' start len :=
  BitVec.extractLsb'_append_eq_of_le (Nat.le_add_left 8 start)

/-- A word is one of format CD exactly where the bits that R84 reserves in CD are 0. -/
theorem eq_encodeCD_iff {w : Word} {op : Byte} {dev : BitVec 4} :
    w = encodeCD op dev ↔ w.extractLsb' 12 20 = 0#20 ∧ devField w = dev ∧ opField w = op := by
  constructor
  · rintro rfl
    refine ⟨?_, ?_, opField_append (0#20 ++ dev) op⟩
    · exact (extractLsb'_append_op (0#20 ++ dev) op 4 20).trans BitVec.extractLsb'_append_eq_left
    · exact (extractLsb'_append_op (0#20 ++ dev) op 0 4).trans BitVec.extractLsb'_append_eq_right
  · rintro ⟨hhi, rfl, rfl⟩
    rw [encodeCD, ← hhi, append_fields_CD]

/-- A word is one of format CF exactly where the bits that R84 reserves in CF are 0. -/
theorem eq_encodeCF_iff {w : Word} {op : Byte} {fid : BitVec 5} :
    w = encodeCF op fid ↔
      (w.extractLsb' 21 11 = 0#11 ∧ w.extractLsb' 8 8 = 0#8) ∧ fidField w = fid ∧ opField w = op := by
  constructor
  · rintro rfl
    refine ⟨⟨?_, ?_⟩, ?_, opField_append (0#11 ++ fid ++ 0#8) op⟩
    · exact (extractLsb'_append_op (0#11 ++ fid ++ 0#8) op 13 11).trans <|
        (BitVec.extractLsb'_append_eq_of_le (by decide)).trans BitVec.extractLsb'_append_eq_left
    · exact (extractLsb'_append_op (0#11 ++ fid ++ 0#8) op 0 8).trans BitVec.extractLsb'_append_eq_right
    · exact (extractLsb'_append_op (0#11 ++ fid ++ 0#8) op 8 5).trans <|
        (BitVec.extractLsb'_append_eq_of_le (by decide)).trans BitVec.extractLsb'_append_eq_right
  · rintro ⟨⟨hhi, hmid⟩, rfl, rfl⟩
    rw [encodeCF, ← hhi, ← hmid, append_fields_CF]

/-! ### Decoding and encoding within a format (30_encoding R84, R85) -/

@[simp] theorem opField_encodeCD (op : Byte) (dev : BitVec 4) : opField (encodeCD op dev) = op :=
  opField_append (0#20 ++ dev) op

@[simp] theorem opField_encodeCF (op : Byte) (fid : BitVec 5) : opField (encodeCF op fid) = op :=
  opField_append (0#11 ++ fid ++ 0#8) op

theorem decodeCD_encodeCD (op : Byte) (dev : BitVec 4) (f : BitVec 4 → Instr) :
    decodeCD (encodeCD op dev) f = .ok (f dev) := by
  obtain ⟨hreserved, hdev, -⟩ := eq_encodeCD_iff.1 (rfl : encodeCD op dev = encodeCD op dev)
  rw [decodeCD, if_pos hreserved, hdev]

theorem decodeCF_encodeCF (op : Byte) (fid : BitVec 5) (f : BitVec 5 → Instr) :
    decodeCF (encodeCF op fid) f = .ok (f fid) := by
  obtain ⟨hreserved, hfid, -⟩ := eq_encodeCF_iff.1 (rfl : encodeCF op fid = encodeCF op fid)
  rw [decodeCF, if_pos hreserved, hfid]

section DecodedRow

variable {w : Word} {n : Nat} {i : Instr}

theorem opField_eq_ofNat (hop : (opField w).toNat = n) : opField w = BitVec.ofNat 8 n := by
  rw [← hop, BitVec.ofNat_toNat, BitVec.setWidth_eq]

theorem encode_of_decodeC0 {j : Instr} (hop : (opField w).toNat = n) (hj : encode j = 0#24 ++ BitVec.ofNat 8 n)
    (h : decodeC0 w j = .ok i) : encode i = w := by
  unfold decodeC0 at h
  split at h <;> cases h
  next hreserved => rw [hj, ← opField_eq_ofNat hop, ← hreserved, append_fields_C0]

theorem encode_of_decodeCD {f : BitVec 4 → Instr} (hop : (opField w).toNat = n)
    (hf : ∀ dev, encode (f dev) = encodeCD (BitVec.ofNat 8 n) dev) (h : decodeCD w f = .ok i) : encode i = w := by
  unfold decodeCD at h
  split at h <;> cases h
  next hreserved => exact (hf _).trans (eq_encodeCD_iff.2 ⟨hreserved, rfl, opField_eq_ofNat hop⟩).symm

theorem encode_of_decodeCF {f : BitVec 5 → Instr} (hop : (opField w).toNat = n)
    (hf : ∀ fid, encode (f fid) = encodeCF (BitVec.ofNat 8 n) fid) (h : decodeCF w f = .ok i) : encode i = w := by
  unfold decodeCF at h
  split at h <;> cases h
  next hreserved => exact (hf _).trans (eq_encodeCF_iff.2 ⟨hreserved, rfl, opField_eq_ofNat hop⟩).symm

end DecodedRow

/-! ### The opcode map (30_encoding R86) -/

theorem decode_encode (i : Instr) : decode (encode i) = .ok i := by
  cases i with
  | encodeBulk dev | encodeInit dev | encodeClose dev =>
    unfold decode encode
    rw [opField_encodeCD]
    exact decodeCD_encodeCD _ dev _
  | patGet fid | patSectionEnabled fid | patWriteSafe fid =>
    unfold decode encode
    rw [opField_encodeCF]
    exact decodeCF_encodeCF _ fid _
  | _ => rfl

/-- The rows of R86 in the order of `decode`: 10 to 12 are of format CD, 14 to 16 of format CF, and the last one is every
unassigned OP. -/
theorem encode_of_decode {w : Word} {i : Instr} (h : decode w = .ok i) : encode i = w := by
  unfold decode at h
  split at h
  case h_10 hop | h_11 hop | h_12 hop => exact encode_of_decodeCD hop (fun _ => rfl) h
  case h_14 hop | h_15 hop | h_16 hop => exact encode_of_decodeCF hop (fun _ => rfl) h
  case h_21 => cases h
  all_goals next hop => exact encode_of_decodeC0 hop rfl h

/-- Decoding and encoding are two readings of one relation between words and commands. -/
theorem decode_eq_ok_iff {w : Word} {i : Instr} : decode w = .ok i ↔ encode i = w :=
  ⟨encode_of_decode, fun h => h ▸ decode_encode i⟩

/-- Settles O1: the decoder reads each format's fields back from the word the encoder puts together. -/
theorem decodeOfEncode : Obligations.DecodeOfEncode := fun i _ => decode_encode i

/-- Settles O2: each row's decoder lets a word pass only where the bits outside OP, DEV and FID are 0. -/
theorem encodeOfDecode : Obligations.EncodeOfDecode := fun _ _ => encode_of_decode

/-! ### The rows of the opcode table (30_encoding R84, R86) -/

/-- A mask that keeps every bit of a field keeps the field. -/
theorem extractLsb'_and_mask {m : Word} {start len : Nat} (hm : m.extractLsb' start len = BitVec.allOnes len)
    (w : Word) : (w &&& m).extractLsb' start len = w.extractLsb' start len := by
  rw [BitVec.extractLsb'_and, hm, BitVec.and_allOnes]

section TableRow

variable {w : Word}

theorem exists_encode_of_rowC0 (i : Instr) (h : w &&& 0xFFFFFFFF#32 = encode i) : ∃ j, encode j = w :=
  ⟨i, h.symm.trans BitVec.and_allOnes⟩

theorem exists_encode_of_rowCD {op : Byte} (f : BitVec 4 → Instr) (hf : ∀ dev, encode (f dev) = encodeCD op dev)
    (h : w &&& 0xFFFFF0FF#32 = encodeCD op 0#4) : ∃ j, encode j = w := by
  obtain ⟨hreserved, -, hop⟩ := eq_encodeCD_iff.1 h
  rw [extractLsb'_and_mask (by decide)] at hreserved
  rw [opField, extractLsb'_and_mask (by decide)] at hop
  exact ⟨f (devField w), (hf _).trans (eq_encodeCD_iff.2 ⟨hreserved, rfl, hop⟩).symm⟩

theorem exists_encode_of_rowCF {op : Byte} (f : BitVec 5 → Instr) (hf : ∀ fid, encode (f fid) = encodeCF op fid)
    (h : w &&& 0xFFE0FFFF#32 = encodeCF op 0#5) : ∃ j, encode j = w := by
  obtain ⟨⟨hhigh, hmid⟩, -, hop⟩ := eq_encodeCF_iff.1 h
  rw [extractLsb'_and_mask (by decide)] at hhigh hmid
  rw [opField, extractLsb'_and_mask (by decide)] at hop
  exact ⟨f (fidField w), (hf _).trans (eq_encodeCF_iff.2 ⟨⟨hhigh, hmid⟩, rfl, hop⟩).symm⟩

/-- The table's rows one by one, each with its command. -/
theorem exists_encode_of_row : ∀ r ∈ opcodeTable, w &&& r.mask = r.code → ∃ i, encode i = w := by
  simp only [opcodeTable, List.forall_mem_cons, List.not_mem_nil, false_imp_iff, implies_true, and_true]
  exact ⟨exists_encode_of_rowC0 .nop, exists_encode_of_rowC0 .pack, exists_encode_of_rowC0 .unpack,
    exists_encode_of_rowC0 .checksum, exists_encode_of_rowC0 .verify, exists_encode_of_rowC0 .frameReset,
    exists_encode_of_rowC0 .frameNext, exists_encode_of_rowC0 .classify, exists_encode_of_rowC0 .decodeBulk,
    exists_encode_of_rowCD .encodeBulk (fun _ => rfl), exists_encode_of_rowCD .encodeInit (fun _ => rfl),
    exists_encode_of_rowCD .encodeClose (fun _ => rfl), exists_encode_of_rowC0 .patOpen,
    exists_encode_of_rowCF .patGet (fun _ => rfl), exists_encode_of_rowCF .patSectionEnabled (fun _ => rfl),
    exists_encode_of_rowCF .patWriteSafe (fun _ => rfl), exists_encode_of_rowC0 .patOverlay,
    exists_encode_of_rowC0 .patClearStage, exists_encode_of_rowC0 .patClose, exists_encode_of_rowC0 .softReset⟩

end TableRow

theorem commandLegal_encode : ∀ i : Instr, commandLegal (encode i) = true
  | .nop => Laws.EncodeLegal.nop
  | .pack => Laws.EncodeLegal.pack
  | .unpack => Laws.EncodeLegal.unpack
  | .checksum => Laws.EncodeLegal.checksum
  | .verify => Laws.EncodeLegal.verify
  | .frameReset => Laws.EncodeLegal.frameReset
  | .frameNext => Laws.EncodeLegal.frameNext
  | .classify => Laws.EncodeLegal.classify
  | .decodeBulk => Laws.EncodeLegal.decodeBulk
  | .encodeBulk dev => Laws.EncodeLegal.encodeBulk dev
  | .encodeInit dev => Laws.EncodeLegal.encodeInit dev
  | .encodeClose dev => Laws.EncodeLegal.encodeClose dev
  | .patOpen => Laws.EncodeLegal.patOpen
  | .patGet fid => Laws.EncodeLegal.patGet fid
  | .patSectionEnabled fid => Laws.EncodeLegal.patSectionEnabled fid
  | .patWriteSafe fid => Laws.EncodeLegal.patWriteSafe fid
  | .patOverlay => Laws.EncodeLegal.patOverlay
  | .patClearStage => Laws.EncodeLegal.patClearStage
  | .patClose => Laws.EncodeLegal.patClose
  | .softReset => Laws.EncodeLegal.softReset

theorem commandLegal_iff {w : Word} : commandLegal w = true ↔ ∃ i, encode i = w := by
  constructor
  · intro h
    obtain ⟨r, hr, hmatch⟩ := List.any_eq_true.1 h
    exact exists_encode_of_row r hr (beq_iff_eq.1 hmatch)
  · rintro ⟨i, rfl⟩
    exact commandLegal_encode i

/-- Settles O3: both sides say that the word is some command's. -/
theorem decoderAcceptsExactlyTheTable : Obligations.DecoderAcceptsExactlyTheTable := fun w => by
  rw [commandLegal_iff]
  exact exists_congr fun _ => decode_eq_ok_iff

/-- Settles O4: every one of the words is what the encoder gives for the command. -/
theorem sampleWordsDecode : Obligations.SampleWordsDecode :=
  ⟨decode_encode .nop, decode_encode .pack, decode_encode .verify, decode_encode .frameNext,
    decode_encode (.encodeBulk 3#4), decode_encode (.patGet 12#5), decode_encode (.patWriteSafe 31#5),
    decode_encode .softReset⟩

end Sys2Proof
end

section
/-! Proofs for 30_encoding: a step that writes CMD (R95), and an illegal word (R87). -/

namespace Sys2Proof.Machine

/-! ### A step that writes CMD (30_encoding R95) -/

section CommandWrite

variable {s : State} {w : Word}

theorem nextCommand_eq_some : s.nextCommand = some w ↔ s.nextTxn = some (.csrWrite 0x000 w) := by
  unfold State.nextCommand
  split
  next h => simp [h]
  next hne => simpa using hne w

theorem step_of_nextCommand (hidle : s.flag .busy = false) (h : s.nextCommand = some w) :
    step s = runCommand w s.advance :=
  step_of_nextTxn hidle (nextCommand_eq_some.1 h)

theorem runWord_of_decode {i : Instr} (h : decode w = .ok i) : runWord w s = exec i s := by
  rw [runWord, h]

theorem runWord_of_illegal (h : commandLegal w = false) :
    runWord w s = .next (s.raiseFault .illegalCommand w.toNat) := by
  cases hdec : decode w with
  | ok i => exact absurd ((decoderAcceptsExactlyTheTable w).1 ⟨i, hdec⟩) (by simp [h])
  | error e =>
    rw [runWord, hdec]
    rfl

theorem nextCommand_withFetchWord {n : Nat} (h : n < 2 ^ 32) :
    (s.withFetchWord 32 n).nextCommand = some (BitVec.ofNat 32 n) := by
  rw [State.withFetchWord, Nat.mod_eq_of_lt h]
  rfl

theorem flag_busy_withFetchWord (s : State) (nbits n : Nat) : (s.withFetchWord nbits n).flag .busy = false :=
  (s.flag_setFlag .busy .busy false).trans (if_pos rfl)

end CommandWrite

/-- Settles O5: an idle step that writes CMD is `runCommand`, and the two ends of a command are record updates. -/
theorem stepRunsDecodedCommand : Obligations.StepRunsDecodedCommand := by
  refine ⟨fun s w i hw hidle hdec _ => ?_, fun s w => rfl, fun s => rfl, fun s n hn => ?_⟩
  · rw [step_of_nextCommand hidle hw, runCommand, runWord_of_decode hdec]
  · exact ⟨nextCommand_withFetchWord hn, flag_busy_withFetchWord s 32 n⟩

/-! ### An illegal word (30_encoding R87) -/

/-- STATUS through a command that faults: dispatch clears ERR and sets BUSY, fault entry sets ERR and ERR_STICKY, and the end
clears BUSY. From an idle unit that sets bits 1 and 2 and changes no other. -/
theorem status_of_faulting_command {v : Word} (hidle : v.getLsbD 0 = false) :
    putBit (putBit (putBit (putBit (putBit v 1 false) 0 true) 1 true) 2 true) 0 false = v ||| 0x00000006#32 := by
  have hmask : ∀ j < 32, (0x00000006#32).getLsbD j = decide (j = 1 ∨ j = 2) := by decide
  apply BitVec.eq_of_getLsbD_eq
  intro j hj
  rw [BitVec.getLsbD_or, hmask j hj]
  simp only [getLsbD_putBit, Nat.reduceLT]
  by_cases hbusy : j = 0
  · subst hbusy
    simpa using hidle
  · by_cases hsticky : j = 2 <;> by_cases herr : j = 1 <;> simp [hbusy, hsticky, herr]

theorem raiseFault_toNat (s : State) (c : FaultCode) (w : Word) :
    s.raiseFault c w.toNat = { s.raiseFault c 0 with errInfo := w } := by
  simp [State.raiseFault]

/-- Settles O6: no row matches, so the word does not decode, and the step is fault entry between the two ends of a
command. -/
theorem illegalWordFaults : Obligations.IllegalWordFaults := fun s w hw hidle hillegal => by
  rw [step_of_nextCommand hidle hw, runCommand, runWord_of_illegal hillegal, raiseFault_toNat,
    ← status_of_faulting_command hidle]
  rfl

end Sys2Proof.Machine
end

section
/-! Proofs for 30_encoding: where ENCODE_BULK faults (R88, 42_sysex R143), from the lengths of what it writes (40_bitpack
R102) and how a body's checks end it. -/

namespace Sys2Proof.Machine

/-! ### The packed length (40_bitpack R102, R105) -/

theorem length_packGroup (chunk : List Byte) : (packGroup chunk).length = chunk.length + 1 := by
  simp [packGroup]

/-- Each of the `k` groups has a header, and together they hold the first 7k raw bytes. -/
theorem length_packGroups (k : Nat) (raw : List Byte) : (packGroups k raw).length = k + min (7 * k) raw.length := by
  induction k generalizing raw with
  | zero => simp [packGroups]
  | succ k ih =>
    rw [packGroups, List.length_append, length_packGroup, ih, List.length_take, List.length_drop]
    omega

theorem length_packFn (raw : List Byte) : (packFn raw).length = packedLen raw.length := by
  rw [packFn, length_packGroups, packedLen]
  split <;> omega

/-- The bulk dump's 11 bytes beside its payload (42_sysex R139). -/
theorem length_bulkMessage (p : Params) (dev : BitVec 4) (a3 : Word) (raw : List Byte) :
    (bulkMessage p dev a3 raw).length = packedLen raw.length + 11 := by
  simp [bulkMessage, bulkBody, length_packFn]

/-! ### How a body's checks end it -/

theorem raiseIf_bind_of_true {α : Type} {c : Bool} (hc : c = true) (k : FaultCode) (n : Nat) (rest : Unit → Cmd α) :
    (raiseIf c k n >>= rest) = .error (.raise k n) :=
  cmd_bind_eq_error.2 (.inl (raiseIf_eq_error.2 ⟨hc, rfl⟩))

section Destination

variable {α : Type} {s : State} {src len dst n cap : Nat} (rest : Unit → Cmd α)

theorem checkDst_bind_of_capacity (h : cap < n) : (checkDst s dst n cap >>= rest) = .error (.raise .capacity n) :=
  cmd_bind_eq_error.2 (.inl (checkDst_eq_error.2 (.inl ⟨h, rfl⟩)))

theorem checkDst_bind_of_not_fits (hcap : n ≤ cap) (h : ¬Fits s dst n) :
    (checkDst s dst n cap >>= rest) = .error (.raise .bounds dst) :=
  cmd_bind_eq_error.2 (.inl (checkDst_eq_error.2 (.inr ⟨hcap, h, rfl⟩)))

theorem checkDst_bind_of_overlap (hcap : n ≤ cap) (hfit : Fits s dst n) (h : ¬Apart src len dst n) :
    (checkDst s dst n cap >>= fun _ => raiseIf (overlaps src len dst n) .overlap dst >>= rest) =
      .error (.raise .overlap dst) :=
  cmd_bind_eq_error.2 (.inr ⟨(), checkDst_eq_ok.2 ⟨hcap, hfit⟩,
    raiseIf_bind_of_true (overlaps_eq_true.2 h) .overlap dst rest⟩)

end Destination

/-! ### Where ENCODE_BULK faults (30_encoding R88, 42_sysex R143) -/

/-- Bytes that stand in MEM stand below P_MEM_BYTES. -/
theorem fits_of_hasBytes {s : State} {a : Nat} {bs : List Byte} (h : HasBytes s a bs) : Fits s a bs.length := by
  rcases Nat.eq_zero_or_pos bs.length with hzero | hpos
  · exact .inl hzero
  · have hlast : bs.length - 1 < bs.length := by omega
    have hpeek := h _ hlast
    rw [List.getElem?_eq_getElem hlast] at hpeek
    have hlt := lt_memBytes_of_peek hpeek
    exact .inr (by omega)

/-- With A3, A1 and its source in order ENCODE_BULK goes on to the checks of its destination, for P(n) + 11 bytes. -/
theorem encodeBulkBody_of_source {s : State} (dev : BitVec 4) (haddr : addr3Clean s.a3 = true)
    (hlen : s.a1.toNat ≤ Config.maxRawPayload) {raw : List Byte} (hraw : raw.length = s.a1.toNat)
    (hbytes : HasBytes s s.a0.toNat raw) :
    ∃ rest, encodeBulkBody dev s = (checkDst s s.a2.toNat (packedLen raw.length + 11) s.a4.toNat >>= fun _ =>
      raiseIf (overlaps s.a0.toNat raw.length s.a2.toNat (packedLen raw.length + 11)) .overlap s.a2.toNat >>= rest) := by
  have hsource : checkSrc s s.a0.toNat s.a1.toNat = .ok () := checkSrc_eq_ok.2 (hraw ▸ fits_of_hasBytes hbytes)
  have hshort : decide (s.a1.toNat > Config.maxRawPayload) = false := decide_eq_false (Nat.not_lt.2 hlen)
  rw [encodeBulkBody, haddr, hshort, hsource, loadBytes_eq_ok.2 ⟨hraw, hbytes⟩,
    ← length_bulkMessage s.params dev s.a3 raw, hraw]
  exact ⟨_, rfl⟩

/-- Settles O47: A3, A1 and the source range are checked first; what comes after them is `encodeBulkBody_of_source`. -/
theorem encodeBulkFaults : Obligations.EncodeBulkFaults := by
  intro s dev
  constructor
  · intro hreserved
    have hdirty : addr3Clean s.a3 = false := Bool.eq_false_iff.2 (mt (addr3Clean_iff s.a3).1 hreserved)
    exact exec_of_body_raise (raiseIf_bind_of_true (by simp [hdirty]) _ _ _)
  · intro hclean
    have haddr : addr3Clean s.a3 = true := (addr3Clean_iff s.a3).2 hclean
    have hpass : (!addr3Clean s.a3) = false := by simp [haddr]
    refine ⟨fun hlong => ?tooLong, fun hlen => ⟨fun hfit => ?source, fun raw hraw hbytes => ?destination⟩⟩
    case tooLong =>
      exact exec_of_body_raise (raiseIf_bind_eq_error hpass (raiseIf_bind_of_true (decide_eq_true hlong) _ _ _))
    case source =>
      exact exec_of_body_raise (raiseIf_bind_eq_error hpass
        (raiseIf_bind_eq_error (decide_eq_false (Nat.not_lt.2 hlen)) (checkSrc_bind_of_not_fits hfit _)))
    case destination =>
      obtain ⟨rest, hbody⟩ := encodeBulkBody_of_source dev haddr hlen hraw hbytes
      exact ⟨fun hcap => exec_of_body_raise (hbody.trans (checkDst_bind_of_capacity _ hcap)),
        fun hcap hfit => exec_of_body_raise (hbody.trans (checkDst_bind_of_not_fits _ hcap hfit)),
        fun hcap hfit hover => exec_of_body_raise (hbody.trans (checkDst_bind_of_overlap _ hcap hfit hover))⟩

end Sys2Proof.Machine
end

section
/-! Proofs for 40_bitpack: the codec group by group, and where PackFn and UnpackFn put each byte and each bit (R101, R104 to
R106). -/

namespace Sys2Proof.Machine

/-! ### A byte's bit 7 and its other bits -/

theorem getLsbD_and_clean (b : Byte) (i : Nat) : (b &&& 0x7F#8).getLsbD i = (decide (i < 7) && b.getLsbD i) := by
  have hmask : ∀ i < 8, (0x7F#8).getLsbD i = decide (i < 7) := by decide
  rw [BitVec.getLsbD_and]
  by_cases hi : i < 8
  · rw [hmask i hi, Bool.and_comm]
  · simp [BitVec.getLsbD_of_ge b i (Nat.le_of_not_lt hi)]

theorem and_clean_of_clean {b : Byte} (h : b.getLsbD 7 = false) : b &&& 0x7F#8 = b := by
  apply BitVec.eq_of_getLsbD_eq
  intro i hi
  rw [getLsbD_and_clean]
  by_cases hseven : i = 7
  · rw [hseven, h]
    rfl
  · simp [show i < 7 by omega]

/-- Bit 7 of a byte, moved to bit `k`. -/
theorem getLsbD_topBit_shift (b : Byte) {k i : Nat} (hk : k < 8) :
    ((b >>> 7) <<< k).getLsbD i = (decide (i = k) && b.getLsbD 7) := by
  rw [BitVec.getLsbD_shiftLeft, BitVec.getLsbD_ushiftRight]
  rcases Nat.lt_trichotomy i k with hlt | rfl | hgt
  · simp [hlt, Nat.ne_of_lt hlt]
  · simp [hk]
  · simp [BitVec.getLsbD_of_ge b (7 + (i - k)) (by omega), Nat.ne_of_gt hgt]

/-- Data byte `j` of a group with header `h`, unpacked (40_bitpack R106). -/
def restoredByte (h : Byte) (j : Nat) (d : Byte) : Byte :=
  (d &&& 0x7F#8) ||| (((h >>> (6 - j)) &&& 0x01#8) <<< 7)

theorem getLsbD_restoredByte (h d : Byte) (j : Nat) {i : Nat} (hi : i < 8) :
    (restoredByte h j d).getLsbD i = if i = 7 then h.getLsbD (6 - j) else d.getLsbD i := by
  rw [restoredByte, BitVec.getLsbD_or, getLsbD_and_clean, BitVec.getLsbD_shiftLeft]
  by_cases hseven : i = 7
  · subst hseven
    simp
  · have hlow : i < 7 := by omega
    simp [hseven, hlow]

theorem highBit_restoredByte (h d : Byte) (j : Nat) : highBit (restoredByte h j d) = h.getLsbD (6 - j) :=
  getLsbD_restoredByte h d j (by decide)

/-- Packing keeps of an unpacked byte what unpacking took from the data byte. -/
theorem restoredByte_and_clean (h d : Byte) (j : Nat) : restoredByte h j d &&& 0x7F#8 = d &&& 0x7F#8 := by
  apply BitVec.eq_of_getLsbD_eq
  intro i hi
  rw [getLsbD_and_clean, getLsbD_and_clean, getLsbD_restoredByte h d j hi]
  by_cases hseven : i = 7 <;> simp [hseven]

/-- The header bit that packing gives a raw byte restores it. -/
theorem restoredByte_of_headerBit {h b : Byte} {j : Nat} (hbit : h.getLsbD (6 - j) = b.getLsbD 7) :
    restoredByte h j (b &&& 0x7F#8) = b := by
  apply BitVec.eq_of_getLsbD_eq
  intro i hi
  rw [getLsbD_restoredByte _ _ _ hi, getLsbD_and_clean]
  by_cases hseven : i = 7
  · rw [hseven, if_pos rfl, hbit]
  · simp [hseven, show i < 7 by omega]

/-! ### One group (40_bitpack R101, R105, R106) -/

/-- From raw byte `j` on, header bit `i` is bit 7 of the raw byte that stands at `6 − i` in the group, if there is one. -/
theorem getLsbD_packHeader_from {j : Nat} {chunk : List Byte} (h : j + chunk.length ≤ 7) (i : Nat) :
    (packHeader j chunk).getLsbD i = (decide (i + j ≤ 6) && (chunk[6 - (i + j)]?).any highBit) := by
  induction chunk generalizing j with
  | nil => simp [packHeader]
  | cons b rest ih =>
    rw [List.length_cons] at h
    rw [packHeader, BitVec.getLsbD_or, getLsbD_topBit_shift b (by omega), ih (by omega)]
    rcases Nat.lt_trichotomy (i + j) 6 with hlater | hfirst | habove
    · have hnot : i ≠ 6 - j := by omega
      have hindex : 6 - (i + j) = 6 - (i + (j + 1)) + 1 := by omega
      simp [hnot, hindex, show i + (j + 1) ≤ 6 by omega, hlater.le]
    · have hbit : 6 - j = i := by omega
      simp [hfirst, hbit, show ¬i + (j + 1) ≤ 6 by omega, highBit]
    · simp [show i ≠ 6 - j by omega, show ¬i + (j + 1) ≤ 6 by omega, show ¬i + j ≤ 6 by omega]

theorem getLsbD_packHeader {chunk : List Byte} (h : chunk.length ≤ 7) {j : Nat} (hj : j < 7) :
    (packHeader 0 chunk).getLsbD (6 - j) = (chunk[j]?).any highBit := by
  rw [getLsbD_packHeader_from (by omega)]
  simp [show 6 - (6 - j) = j by omega]

theorem packHeader_clean {chunk : List Byte} (h : chunk.length ≤ 7) : (packHeader 0 chunk).getLsbD 7 = false := by
  rw [getLsbD_packHeader_from (by omega)]
  rfl

theorem packGroup_clean {chunk : List Byte} (h : chunk.length ≤ 7) {b : Byte} (hb : b ∈ packGroup chunk) :
    b.getLsbD 7 = false := by
  rcases List.mem_cons.1 hb with rfl | hdata
  · exact packHeader_clean h
  · obtain ⟨d, -, rfl⟩ := List.mem_map.1 hdata
    exact getLsbD_and_clean d 7

theorem unpackData_eq_mapIdx (h : Byte) (j : Nat) (data : List Byte) :
    unpackData h j data = data.mapIdx fun m d => restoredByte h (j + m) d := by
  induction data generalizing j with
  | nil => rfl
  | cons d rest ih =>
    rw [unpackData, ih, List.mapIdx_cons]
    simp only [Nat.add_right_comm j 1, ← Nat.add_assoc]
    rfl

theorem getElem?_unpackGroup (g : List Byte) (j : Nat) :
    (unpackGroup g)[j]? = (g[0]?).bind fun h => (g[j + 1]?).map (restoredByte h j) := by
  cases g with
  | nil => rfl
  | cons h data => simp [unpackGroup, unpackData_eq_mapIdx]

theorem length_unpackGroup (g : List Byte) : (unpackGroup g).length = g.length - 1 := by
  cases g with
  | nil => rfl
  | cons h data => simp [unpackGroup, unpackData_eq_mapIdx]

/-! ### Group after group (40_bitpack R104 to R106) -/

theorem packFn_nil : packFn [] = [] := rfl

theorem unpackFn_nil : unpackFn [] = [] := rfl

theorem packFn_of_ne_nil {raw : List Byte} (h : raw ≠ []) :
    packFn raw = packGroup (raw.take 7) ++ packFn (raw.drop 7) := by
  have hpos : 0 < raw.length := List.length_pos_iff.2 h
  have hgroups : (raw.length + 6) / 7 = ((raw.drop 7).length + 6) / 7 + 1 := by
    rw [List.length_drop]
    omega
  rw [packFn, hgroups]
  rfl

theorem unpackFn_eq_append (p : List Byte) : unpackFn p = unpackGroup (p.take 8) ++ unpackFn (p.drop 8) := by
  rcases Nat.eq_zero_or_pos p.length with hzero | hpos
  · rw [List.length_eq_zero_iff.1 hzero]
    rfl
  · have hgroups : (p.length + 7) / 8 = ((p.drop 8).length + 7) / 8 + 1 := by
      rw [List.length_drop]
      omega
    rw [unpackFn, hgroups]
    rfl

/-- The first group of a packed sequence, and what follows it. -/
theorem split_packFn {raw : List Byte} (h : raw ≠ []) :
    (packFn raw).take 8 = packGroup (raw.take 7) ∧ (packFn raw).drop 8 = packFn (raw.drop 7) := by
  rw [packFn_of_ne_nil h]
  by_cases hfull : 7 ≤ raw.length
  · have hlen : (packGroup (raw.take 7)).length = 8 := by simp [length_packGroup, hfull]
    exact ⟨List.take_left' hlen, List.drop_left' hlen⟩
  · have hlen : (packGroup (raw.take 7)).length ≤ 8 := by
      rw [length_packGroup, List.length_take]
      omega
    rw [List.drop_eq_nil_of_le (by omega : raw.length ≤ 7), packFn_nil, List.append_nil]
    exact ⟨List.take_of_length_le hlen, List.drop_eq_nil_of_le hlen⟩

/-- The first group of an unpacked sequence, and what follows it. -/
theorem split_unpackFn (p : List Byte) :
    (unpackFn p).take 7 = unpackGroup (p.take 8) ∧ (unpackFn p).drop 7 = unpackFn (p.drop 8) := by
  rw [unpackFn_eq_append]
  by_cases hfull : 8 ≤ p.length
  · have hlen : (unpackGroup (p.take 8)).length = 7 := by simp [length_unpackGroup, hfull]
    exact ⟨List.take_left' hlen, List.drop_left' hlen⟩
  · have hlen : (unpackGroup (p.take 8)).length ≤ 7 := by
      rw [length_unpackGroup, List.length_take]
      omega
    rw [List.drop_eq_nil_of_le (by omega : p.length ≤ 8), unpackFn_nil, List.append_nil]
    exact ⟨List.take_of_length_le hlen, List.drop_eq_nil_of_le hlen⟩

theorem drop_packFn (raw : List Byte) (g : Nat) : (packFn raw).drop (8 * g) = packFn (raw.drop (7 * g)) := by
  induction g with
  | zero => rfl
  | succ g ih =>
    rw [Nat.mul_succ, Nat.mul_succ, ← List.drop_drop, ih, ← List.drop_drop]
    by_cases hnil : raw.drop (7 * g) = []
    · rw [hnil]
      rfl
    · exact (split_packFn hnil).2

theorem drop_unpackFn (p : List Byte) (g : Nat) : (unpackFn p).drop (7 * g) = unpackFn (p.drop (8 * g)) := by
  induction g with
  | zero => rfl
  | succ g ih => rw [Nat.mul_succ, Nat.mul_succ, ← List.drop_drop, ih, (split_unpackFn _).2, List.drop_drop]

/-! ### Where each byte and bit stands (40_bitpack R101, R106) -/

/-- The header of group `g` of a packed sequence. -/
theorem getElem?_packFn_header {raw : List Byte} {g : Nat} (h : 7 * g < raw.length) :
    (packFn raw)[8 * g]? = some (packHeader 0 ((raw.drop (7 * g)).take 7)) := by
  have hne : raw.drop (7 * g) ≠ [] := by simpa using h
  calc (packFn raw)[8 * g]? = ((packFn raw).drop (8 * g))[0]? := by rw [List.getElem?_drop, Nat.add_zero]
    _ = some (packHeader 0 ((raw.drop (7 * g)).take 7)) := by
      rw [drop_packFn, packFn_of_ne_nil hne]
      rfl

/-- Data byte `j` of group `g` of a packed sequence. -/
theorem getElem?_packFn_data (raw : List Byte) (g : Nat) {j : Nat} (hj : j < 7) :
    (packFn raw)[8 * g + 1 + j]? = (raw[7 * g + j]?).map fun b => b &&& 0x7F#8 := by
  have hgroup : (packFn raw)[8 * g + 1 + j]? = (packFn (raw.drop (7 * g)))[1 + j]? := by
    rw [← drop_packFn, List.getElem?_drop, Nat.add_assoc]
  rw [hgroup, ← List.getElem?_drop (xs := raw)]
  by_cases hnil : raw.drop (7 * g) = []
  · simp [hnil, packFn_nil]
  · rw [← List.getElem?_take_of_lt (by omega : 1 + j < 8), (split_packFn hnil).1, Nat.add_comm 1 j]
    simp [packGroup, hj]

/-- Header bit `6 − j` of group `g` is bit 7 of the raw byte `7g + j`, and 0 where there is none. -/
theorem getLsbD_packFn_header (raw : List Byte) (g : Nat) {j : Nat} (hj : j < 7) :
    (packHeader 0 ((raw.drop (7 * g)).take 7)).getLsbD (6 - j) = (raw[7 * g + j]?).any highBit := by
  rw [getLsbD_packHeader (List.length_take_le 7 _) hj, List.getElem?_take_of_lt hj, List.getElem?_drop]

/-- Raw byte `7g + j` of an unpacked sequence: data byte `j` of group `g`, with bit `6 − j` of the group's header. -/
theorem getElem?_unpackFn (p : List Byte) (g : Nat) {j : Nat} (hj : j < 7) :
    (unpackFn p)[7 * g + j]? = (p[8 * g]?).bind fun h => (p[8 * g + 1 + j]?).map (restoredByte h j) := by
  rw [← List.getElem?_drop, drop_unpackFn, ← List.getElem?_take_of_lt hj, (split_unpackFn _).1, getElem?_unpackGroup,
    List.getElem?_take_of_lt (by decide), List.getElem?_take_of_lt (by omega), List.getElem?_drop, List.getElem?_drop,
    Nat.add_zero, Nat.add_comm j 1, ← Nat.add_assoc]

/-- Settles O29: a group's header byte and data bytes, read by position. -/
theorem packedBitPositions : Obligations.PackedBitPositions := by
  intro raw g hg
  refine ⟨_, getElem?_packFn_header hg, fun j b hj hb => ⟨?bit7, ?data⟩, fun j hj hnone => ?absent, ?clean⟩
  case bit7 => rw [getLsbD_packFn_header raw g hj, hb, Option.any_some, highBit]
  case data => rw [getElem?_packFn_data raw g hj, hb, Option.map_some]
  case absent => rw [getLsbD_packFn_header raw g hj, hnone, Option.any_none]
  case clean => exact packHeader_clean (List.length_take_le 7 _)

end Sys2Proof.Machine
end

section
/-! Proofs for 40_bitpack: the packed and unpacked lengths (R102, R103), and the laws that relate packing and unpacking (R108). -/

namespace Sys2Proof.Machine

/-! ### Lengths (40_bitpack R102, R103) -/

/-- P(n) counts the raw bytes and a header for each group of up to 7. -/
theorem packedLen_eq (n : Nat) : packedLen n = n + (n + 6) / 7 := by
  unfold packedLen
  split <;> omega

theorem unpackedLen_eq (l : Nat) : unpackedLen l = 7 * l / 8 := by
  unfold unpackedLen
  split <;> omega

/-- A group gives raw bytes exactly when a data byte follows its header. -/
theorem lt_unpackedLen_iff {g l : Nat} : 7 * g < unpackedLen l ↔ 8 * g + 1 < l := by
  unfold unpackedLen
  split <;> omega

theorem unpackedLen_packedLen (n : Nat) : unpackedLen (packedLen n) = n := by
  rw [unpackedLen_eq, packedLen_eq]
  omega

/-- No packed sequence ends with a lone header; every other length is a packed length. -/
theorem packedLen_unpackedLen_iff (l : Nat) : packedLen (unpackedLen l) = l ↔ l % 8 ≠ 1 := by
  rw [packedLen_eq, unpackedLen]
  split <;> omega

theorem length_unpackGroups (k : Nat) (p : List Byte) :
    (unpackGroups k p).length = unpackedLen (min (8 * k) p.length) := by
  induction k generalizing p with
  | zero => simp [unpackGroups, unpackedLen]
  | succ k ih =>
    rw [unpackGroups, List.length_append, length_unpackGroup, ih, List.length_take, List.length_drop, unpackedLen_eq,
      unpackedLen_eq]
    omega

theorem length_unpackFn (p : List Byte) : (unpackFn p).length = unpackedLen p.length := by
  rw [unpackFn, length_unpackGroups, Nat.min_eq_right (by omega)]

/-- Settles O28. -/
theorem packedAndUnpackedLengths : Obligations.PackedAndUnpackedLengths :=
  ⟨fun n => ⟨rfl, packedLen_eq n⟩, fun l => ⟨rfl, unpackedLen_eq l⟩, unpackedLen_packedLen, length_packFn,
    length_unpackFn⟩

/-! ### Unpacking undoes packing (40_bitpack R108) -/

theorem packGroups_clean (k : Nat) (raw : List Byte) : ∀ b ∈ packGroups k raw, b.getLsbD 7 = false := by
  induction k generalizing raw with
  | zero => simp [packGroups]
  | succ k ih =>
    intro b hb
    rcases List.mem_append.1 hb with hfirst | hrest
    · exact packGroup_clean (List.length_take_le 7 raw) hfirst
    · exact ih _ b hrest

theorem packFn_clean (raw : List Byte) : ∀ b ∈ packFn raw, b.getLsbD 7 = false :=
  packGroups_clean _ raw

theorem firstNonclean_eq_none_iff {p : List Byte} : firstNonclean p = none ↔ ∀ b ∈ p, b.getLsbD 7 = false :=
  List.findIdx?_eq_none_iff

theorem unpackFn_packFn (x : List Byte) : unpackFn (packFn x) = x := by
  apply List.ext_getElem?
  intro i
  have hj : i % 7 < 7 := Nat.mod_lt i (by decide)
  rw [← Nat.div_add_mod i 7, getElem?_unpackFn _ _ hj, getElem?_packFn_data x _ hj]
  cases hbyte : x[7 * (i / 7) + i % 7]? with
  | none => simp
  | some b =>
    have hgroup : 7 * (i / 7) < x.length := by
      have := (List.getElem?_eq_some_iff.1 hbyte).1
      omega
    have hbit := getLsbD_packFn_header x (i / 7) hj
    rw [hbyte, Option.any_some, highBit] at hbit
    rw [getElem?_packFn_header hgroup, Option.map_some, Option.bind_some, Option.map_some, restoredByte_of_headerBit hbit]

/-! ### Packing undoes unpacking on canonical bytes (40_bitpack R108) -/

/-- Canonical packed bytes: all 7-bit clean, no lone header at the end, and no header bit set for a byte that a partial last
group lacks (40_bitpack R108). -/
def CanonicalPacked (p : List Byte) : Prop :=
  (∀ b ∈ p, b.getLsbD 7 = false) ∧ p.length % 8 ≠ 1 ∧
    ∀ h r, p[8 * (p.length / 8)]? = some h → r = p.length % 8 - 1 → ∀ k, k ≤ 6 - r → h.getLsbD k = false

theorem canonicalPacked_packFn (x : List Byte) : CanonicalPacked (packFn x) := by
  have hlone : packedLen x.length % 8 ≠ 1 := by
    rw [← packedLen_unpackedLen_iff, unpackedLen_packedLen]
  refine ⟨packFn_clean x, by rwa [length_packFn], fun h r hh hr k hk => ?_⟩
  rw [length_packFn] at hh hr
  have hlt : 8 * (packedLen x.length / 8) < packedLen x.length := by
    simpa [length_packFn] using (List.getElem?_eq_some_iff.1 hh).1
  have hlen := packedLen_eq x.length
  have hgroup : 7 * (packedLen x.length / 8) < x.length := by omega
  have habsent : x[7 * (packedLen x.length / 8) + (6 - k)]? = none := List.getElem?_eq_none (by omega)
  have hbit := getLsbD_packFn_header x (packedLen x.length / 8) (by omega : 6 - k < 7)
  rw [habsent, Option.any_none, show 6 - (6 - k) = k by omega] at hbit
  rw [getElem?_packFn_header hgroup, Option.some.injEq] at hh
  exact hh ▸ hbit

/-- Each index of a packed sequence is that of a group's header or of one of its data bytes. -/
theorem packedIndex_cases (i : Nat) : ∃ g, i = 8 * g ∨ ∃ j, j < 7 ∧ i = 8 * g + 1 + j := by
  rcases Nat.eq_zero_or_pos (i % 8) with hzero | hpos
  · exact ⟨i / 8, .inl (by omega)⟩
  · exact ⟨i / 8, .inr ⟨i % 8 - 1, by omega, by omega⟩⟩

/-- Packing unpacked bytes gives a header bit back where its data byte is there, and 0 elsewhere. -/
theorem getLsbD_header_of_unpackFn {p : List Byte} {g : Nat} {h : Byte} (hh : p[8 * g]? = some h) {j : Nat} (hj : j < 7) :
    (packHeader 0 (((unpackFn p).drop (7 * g)).take 7)).getLsbD (6 - j) =
      (decide (8 * g + 1 + j < p.length) && h.getLsbD (6 - j)) := by
  rw [getLsbD_packFn_header _ g hj, getElem?_unpackFn p g hj, hh, Option.bind_some]
  by_cases hdata : 8 * g + 1 + j < p.length
  · simp [hdata, highBit_restoredByte]
  · simp [hdata]

/-- On canonical bytes every header comes back: the bits that packing leaves 0 were 0. -/
theorem packHeader_unpackFn_of_canonical {p : List Byte} (hp : CanonicalPacked p) {g : Nat} {h : Byte}
    (hh : p[8 * g]? = some h) : packHeader 0 (((unpackFn p).drop (7 * g)).take 7) = h := by
  obtain ⟨hclean, -, hheader⟩ := hp
  obtain ⟨hlt, -⟩ := List.getElem?_eq_some_iff.1 hh
  apply BitVec.eq_of_getLsbD_eq
  intro k hk
  by_cases hseven : k = 7
  · rw [hseven, packHeader_clean (List.length_take_le 7 _), hclean h (List.mem_of_getElem? hh)]
  · have hbit := getLsbD_header_of_unpackFn hh (by omega : 6 - k < 7)
    rw [show 6 - (6 - k) = k by omega] at hbit
    rw [hbit]
    by_cases hdata : 8 * g + 1 + (6 - k) < p.length
    · simp [hdata]
    · have hlast : p.length / 8 = g := by omega
      rw [hheader h _ (hlast ▸ hh) rfl k (by omega), Bool.and_false]

theorem packFn_unpackFn_of_canonical {p : List Byte} (hp : CanonicalPacked p) : packFn (unpackFn p) = p := by
  have ⟨hclean, hlone, _⟩ := hp
  have hlen : (packFn (unpackFn p)).length = p.length := by
    rw [length_packFn, length_unpackFn]
    exact (packedLen_unpackedLen_iff p.length).2 hlone
  apply List.ext_getElem hlen
  intro i _ hi
  apply Option.some.inj
  rw [← List.getElem?_eq_getElem, ← List.getElem?_eq_getElem]
  obtain ⟨g, rfl | ⟨j, hj, rfl⟩⟩ := packedIndex_cases i
  · have hgroup : 7 * g < (unpackFn p).length := by
      rw [length_unpackFn, lt_unpackedLen_iff]
      omega
    have hh := List.getElem?_eq_getElem hi
    rw [getElem?_packFn_header hgroup, packHeader_unpackFn_of_canonical hp hh, hh]
  · rw [getElem?_packFn_data _ g hj, getElem?_unpackFn p g hj, List.getElem?_eq_getElem hi,
      List.getElem?_eq_getElem (by omega : 8 * g < p.length), Option.bind_some, Option.map_some, Option.map_some,
      restoredByte_and_clean, and_clean_of_clean (hclean _ (List.getElem_mem hi))]

/-- Settles O30: what packing gives is canonical, so only canonical bytes come back; and on canonical bytes each position comes
back. -/
theorem packUnpackLaws : Obligations.PackUnpackLaws :=
  ⟨fun x => ⟨unpackFn_packFn x, firstNonclean_eq_none_iff.2 (packFn_clean x)⟩,
    fun p => ⟨fun h => h ▸ canonicalPacked_packFn (unpackFn p), packFn_unpackFn_of_canonical⟩⟩

end Sys2Proof.Machine
end

section
/-! Proofs for 40_bitpack: PACK and UNPACK, where they fault and what they leave (R107, R109, R110). -/

namespace Sys2Proof.Machine

/-! ### A warning as a record update (60_exceptions R215) -/

theorem State.warnIf_eq (s : State) (c : Bool) (b : StatusBit) :
    s.warnIf c b = { s with status := if c then putBit s.status b.index true else s.status } := by
  cases c <;> rfl

/-! ### The first byte that is not 7-bit clean (40_bitpack R107) -/

theorem firstNonclean_isSome (p : List Byte) : (firstNonclean p).isSome = p.any fun b => b.getLsbD 7 :=
  List.findIdx?_isSome

theorem firstNonclean_eq_some {p : List Byte} {i : Nat} (hbit : ∃ b, p[i]? = some b ∧ b.getLsbD 7 = true)
    (hbefore : ∀ j, j < i → ∀ b, p[j]? = some b → b.getLsbD 7 = false) : firstNonclean p = some i := by
  obtain ⟨b, hb, hset⟩ := hbit
  obtain ⟨hi, rfl⟩ := List.getElem?_eq_some_iff.1 hb
  refine List.findIdx?_eq_some_iff_getElem.2 ⟨hi, hset, fun j hj => ?_⟩
  simpa [highBit] using hbefore j hj _ (List.getElem?_eq_getElem (hj.trans hi))

/-- In strict mode the bytes must be clean, in lenient mode they may be any (40_bitpack R107). -/
theorem refuseNonclean_of_accepted {s : State} {p : List Byte} (base : Nat)
    (h : (∀ b ∈ p, b.getLsbD 7 = false) ∨ s.ctrl.getLsbD 3 = false) :
    refuseNonclean s base (firstNonclean p) = .ok () :=
  refuseNonclean_eq_ok.2 (h.imp_left firstNonclean_eq_none_iff.2)

/-! ### With the source in order, a command goes on to the checks that follow (60_exceptions R214) -/

section Source

variable {s : State} {bs : List Byte}

theorem source_bind {α : Type} (hlen : bs.length = s.a1.toNat) (hbytes : HasBytes s s.a0.toNat bs)
    (k : List Byte → Cmd α) :
    (checkSrc s s.a0.toNat s.a1.toNat >>= fun _ => loadBytes s s.a0.toNat s.a1.toNat >>= k) = k bs := by
  have hsource : checkSrc s s.a0.toNat s.a1.toNat = .ok () := checkSrc_eq_ok.2 (hlen ▸ fits_of_hasBytes hbytes)
  rw [hsource, loadBytes_eq_ok.2 ⟨hlen, hbytes⟩]
  rfl

theorem packBody_of_source (hlen : bs.length = s.a1.toNat) (hbytes : HasBytes s s.a0.toNat bs) :
    packBody s = (checkDst s s.a2.toNat (packedLen bs.length) s.a4.toNat >>= fun _ =>
      raiseIf (overlaps s.a0.toNat bs.length s.a2.toNat (packedLen bs.length)) .overlap s.a2.toNat >>= fun _ =>
      .ok ((s.storeBytes s.a2.toNat (packFn bs)).setR0 (packedLen bs.length))) := by
  rw [packBody, source_bind hlen hbytes, ← length_packFn, hlen]

theorem unpackBody_of_accepted (hlen : bs.length = s.a1.toNat) (hbytes : HasBytes s s.a0.toNat bs)
    (haccepted : (∀ b ∈ bs, b.getLsbD 7 = false) ∨ s.ctrl.getLsbD 3 = false) :
    unpackBody s = (checkDst s s.a2.toNat (unpackedLen bs.length) s.a4.toNat >>= fun _ =>
      raiseIf (overlaps s.a0.toNat bs.length s.a2.toNat (unpackedLen bs.length)) .overlap s.a2.toNat >>= fun _ =>
      .ok (((s.storeBytes s.a2.toNat (unpackFn bs)).setR0 (unpackedLen bs.length)).warnIf (firstNonclean bs).isSome
        .wNonclean)) := by
  rw [unpackBody, source_bind hlen hbytes, refuseNonclean_of_accepted _ haccepted, ← length_unpackFn, hlen]
  rfl

theorem unpackBody_of_refused {i : Nat} (hlen : bs.length = s.a1.toNat) (hbytes : HasBytes s s.a0.toNat bs)
    (hstrict : s.unpackStrict = true) (hfirst : firstNonclean bs = some i) :
    unpackBody s = .error (.raise .noncleanInput (s.a0.toNat + i)) := by
  rw [unpackBody, source_bind hlen hbytes]
  exact cmd_bind_eq_error.2 (.inl (refuseNonclean_eq_error.2 ⟨i, hfirst, hstrict, rfl⟩))

end Source

/-! ### How the checks of the destination end a command (00_scope R13, 60_exceptions R214) -/

section Destination

variable {i : Instr} {s : State} {len n : Nat}

theorem exec_of_destination_faults {rest : Unit → Cmd State}
    (hbody : bodyOf i s = (checkDst s s.a2.toNat n s.a4.toNat >>= fun _ =>
      raiseIf (overlaps s.a0.toNat len s.a2.toNat n) .overlap s.a2.toNat >>= rest)) :
    (s.a4.toNat < n → exec i s = .next (s.raiseFault .capacity n)) ∧
      (n ≤ s.a4.toNat → ¬Fits s s.a2.toNat n → exec i s = .next (s.raiseFault .bounds s.a2.toNat)) ∧
      (n ≤ s.a4.toNat → Fits s s.a2.toNat n → ¬Apart s.a0.toNat len s.a2.toNat n →
        exec i s = .next (s.raiseFault .overlap s.a2.toNat)) :=
  ⟨fun hcap => exec_of_body_raise (hbody.trans (checkDst_bind_of_capacity _ hcap)),
    fun hcap hfit => exec_of_body_raise (hbody.trans (checkDst_bind_of_not_fits _ hcap hfit)),
    fun hcap hfit hover => exec_of_body_raise (hbody.trans (checkDst_bind_of_overlap _ hcap hfit hover))⟩

theorem exec_of_destination {t : State}
    (hbody : bodyOf i s = (checkDst s s.a2.toNat n s.a4.toNat >>= fun _ =>
      raiseIf (overlaps s.a0.toNat len s.a2.toNat n) .overlap s.a2.toNat >>= fun _ => .ok t))
    (hcap : n ≤ s.a4.toNat) (hfit : Fits s s.a2.toNat n) (hapart : Apart s.a0.toNat len s.a2.toNat n) :
    exec i s = .next t := by
  have hcheck : checkDst s s.a2.toNat n s.a4.toNat = .ok () := checkDst_eq_ok.2 ⟨hcap, hfit⟩
  rw [hcheck, overlaps_eq_false.2 hapart] at hbody
  exact (exec_eq_commit i s).trans (commit_ok hbody)

end Destination

/-! ### Obligations on PACK and UNPACK -/

/-- Settles O34: what the source leaves to check is `packBody_of_source` and, past the clean check,
`unpackBody_of_accepted`. -/
theorem packAndUnpackFaults : Obligations.PackAndUnpackFaults := by
  refine ⟨fun s hfit => ⟨?packSource, ?unpackSource⟩, fun s raw hlen hbytes => ?pack,
    fun s p hlen hbytes => ⟨fun i hstrict hset hbefore => ?nonclean, fun haccepted => ?unpack⟩⟩
  case packSource | unpackSource => exact exec_of_body_raise (checkSrc_bind_of_not_fits hfit _)
  case pack => exact exec_of_destination_faults (packBody_of_source hlen hbytes)
  case nonclean =>
    exact exec_of_body_raise (unpackBody_of_refused hlen hbytes hstrict (firstNonclean_eq_some hset hbefore))
  case unpack => exact exec_of_destination_faults (unpackBody_of_accepted hlen hbytes haccepted)

/-- Settles O32. -/
theorem packCompletes : Obligations.PackCompletes := by
  intro s raw hlen hbytes hcap hfit hapart
  exact ⟨_, exec_of_destination (packBody_of_source hlen hbytes) hcap hfit hapart, rfl,
    storedAt_of_fits rfl rfl (by rwa [length_packFn])⟩

/-- Settles O33: the warning is the one change besides those of PACK. -/
theorem unpackCompletes : Obligations.UnpackCompletes := by
  intro s p hlen hbytes haccepted hcap hfit hapart
  refine ⟨_, exec_of_destination (unpackBody_of_accepted hlen hbytes haccepted) hcap hfit hapart, ?frame,
    storedAt_of_fits (by simp) (by simp) (by rwa [length_unpackFn])⟩
  case frame =>
    rw [firstNonclean_isSome, State.warnIf_eq]
    rfl

end Sys2Proof.Machine
end

section
/-! Proofs for 41_checksum: the checksum and its verdict as sums mod 128 and the laws of R124, and how CHECKSUM and VERIFY
complete (R125, R126). -/

namespace Sys2Proof.Machine

/-! ### The checksum and the verdict as sums mod 128 (41_checksum R120, R122) -/

theorem checksumFn_lt (bs : List Byte) : checksumFn bs < 128 := Nat.mod_lt _ (by decide)

theorem byteSum_add_checksumFn (bs : List Byte) : (byteSum bs + checksumFn bs) % 128 = 0 := by
  unfold checksumFn
  omega

theorem toNat_and_clean (e : Byte) : (e &&& 0x7F#8).toNat = e.toNat % 128 :=
  (BitVec.toNat_and ..).trans (Nat.and_two_pow_sub_one_eq_mod e.toNat 7)

/-- VerifyFn in R122's second form. -/
theorem verifyFn_eq_decide (bs : List Byte) (e : Byte) :
    verifyFn bs e = decide ((byteSum bs + e.toNat) % 128 = 0) := by
  have hlt := checksumFn_lt bs
  have hsum := byteSum_add_checksumFn bs
  rw [Bool.eq_iff_iff, verifyFn, toNat_and_clean, beq_iff_eq, decide_eq_true_iff]
  omega

/-! ### One byte in a sum -/

/-- A sum is one byte of the sequence and the rest, and replacing that byte leaves the rest. -/
theorem exists_byteSum_rest {bs : List Byte} {k : Nat} {v : Byte} (h : bs[k]? = some v) :
    ∃ rest, byteSum bs = rest + v.toNat ∧ ∀ w, byteSum (bs.set k w) = rest + w.toNat := by
  obtain ⟨hk, rfl⟩ := List.getElem?_eq_some_iff.1 h
  have hset : ∀ w, byteSum (bs.set k w) = byteSum (bs.take k) + byteSum (bs.drop (k + 1)) + w.toNat := by
    intro w
    simp only [byteSum, List.map_set, List.sum_set, List.length_map, if_pos hk, List.map_take, List.map_drop]
    omega
  exact ⟨_, (congrArg byteSum (List.set_getElem_self hk)).symm.trans (hset _), hset⟩

/-! ### A flipped bit (41_checksum R124) -/

theorem getLsbD_one_shiftLeft {i j : Nat} (hi : i < 8) : (1#8 <<< i).getLsbD j = decide (i = j) := by
  rw [← BitVec.twoPow_eq, BitVec.getLsbD_twoPow, decide_eq_true hi, Bool.true_and]

/-- Where bit `i` is clear, flipping it is an addition without carries. -/
theorem toNat_flip_of_clear {v : Byte} {i : Nat} (hi : i < 8) (h : v.getLsbD i = false) :
    (v ^^^ (1#8 <<< i)).toNat = v.toNat + 2 ^ i := by
  have hbit : ∀ j, (v.getLsbD j && decide (i = j)) = false := by grind
  have hdisjoint : v &&& (1#8 <<< i) = 0#8 := BitVec.eq_of_getLsbD_eq fun j _ => by
    rw [BitVec.getLsbD_and, getLsbD_one_shiftLeft hi, hbit, BitVec.getLsbD_zero]
  have hxor : v ^^^ (1#8 <<< i) = v ||| (1#8 <<< i) := BitVec.eq_of_getLsbD_eq fun j _ => by
    rw [BitVec.getLsbD_xor, BitVec.getLsbD_or, getLsbD_one_shiftLeft hi]
    grind
  rw [hxor, ← BitVec.add_eq_or_of_and_eq_zero _ _ hdisjoint, BitVec.toNat_add_of_and_eq_zero hdisjoint,
    ← BitVec.twoPow_eq, BitVec.toNat_twoPow_of_lt hi]

/-- Flipping bit `i` adds 2^i or takes it away. -/
theorem toNat_flip (v : Byte) {i : Nat} (hi : i < 8) :
    (v ^^^ (1#8 <<< i)).toNat = v.toNat + 2 ^ i ∨ v.toNat = (v ^^^ (1#8 <<< i)).toNat + 2 ^ i := by
  cases hbit : v.getLsbD i with
  | false => exact .inl (toNat_flip_of_clear hi hbit)
  | true =>
    have hclear : (v ^^^ (1#8 <<< i)).getLsbD i = false := by
      rw [BitVec.getLsbD_xor, getLsbD_one_shiftLeft hi, hbit, decide_eq_true rfl, Bool.xor_self]
    have hback := toNat_flip_of_clear hi hclear
    rw [BitVec.xor_assoc, BitVec.xor_self, BitVec.xor_zero] at hback
    exact .inr hback

/-- Of the powers that a bit of a byte can weigh, 2^7 alone is 0 mod 128. -/
theorem two_pow_mod_128_eq_zero_iff {i : Nat} (hi : i < 8) : 2 ^ i % 128 = 0 ↔ i = 7 := by
  rw [← Nat.dvd_iff_mod_eq_zero, show 128 = 2 ^ 7 from rfl, Nat.pow_dvd_pow_iff_le_right (by decide)]
  omega

/-- In a sum that is 0 mod 128, a flip of bit 7 of one byte is the one that leaves it so. -/
theorem sum_flip_mod_eq_zero_iff {n i : Nat} {v : Byte} (hi : i < 8) (h : (n + v.toNat) % 128 = 0) :
    (n + (v ^^^ (1#8 <<< i)).toNat) % 128 = 0 ↔ i = 7 := by
  have hflip := toNat_flip v hi
  rw [← two_pow_mod_128_eq_zero_iff hi]
  omega

/-- Settles O31: by `verifyFn_eq_decide` a flip, in the checksum byte as in a byte of the sequence, changes one summand of a sum
that was 0 mod 128. -/
theorem checksumLaws : Obligations.ChecksumLaws := by
  intro b
  have hzero : ∀ e : Byte, e.toNat = checksumFn b → (byteSum b + e.toNat) % 128 = 0 := by
    intro e he
    rw [he]
    exact byteSum_add_checksumFn b
  refine ⟨fun e he => ⟨?verifies, fun i hi => ?checksumFlip⟩, byteSum_add_checksumFn b, checksumFn_lt b,
    fun k i v e hv hi he => ?byteFlip⟩
  case verifies => rw [verifyFn_eq_decide, decide_eq_true (hzero e he)]
  case checksumFlip =>
    rw [verifyFn_eq_decide]
    exact decide_eq_decide.2 (sum_flip_mod_eq_zero_iff hi (hzero e he))
  case byteFlip =>
    obtain ⟨rest, hsum, hset⟩ := exists_byteSum_rest hv
    have hzero := hzero e he
    rw [hsum, Nat.add_right_comm] at hzero
    rw [verifyFn_eq_decide, hset, Nat.add_right_comm]
    exact decide_eq_decide.2 (sum_flip_mod_eq_zero_iff hi hzero)

/-! ### CHECKSUM and VERIFY -/

theorem exec_of_body_ok {i : Instr} {s t : State} (h : bodyOf i s = .ok t) : exec i s = .next t :=
  (exec_eq_commit i s).trans (commit_ok h)

/-- Settles O35: with the source in order the body writes R0 alone. -/
theorem checksumCompletes : Obligations.ChecksumCompletes := by
  intro s bs hlen hbytes
  have hbody : bodyOf .checksum s = .ok (s.setR0 (checksumFn bs)) := source_bind hlen hbytes _
  exact ⟨_, exec_of_body_ok hbody, rfl, sameMemory_of_eq rfl rfl⟩

theorem exp8Byte_toNat {v : Word} (h : v.toNat < 256) : (exp8Byte v).toNat = v.toNat := by
  rw [exp8Byte, BitVec.extractLsb'_toNat, Nat.shiftRight_zero]
  exact Nat.mod_eq_of_lt h

/-- R0's value for the verdict of VERIFY. -/
theorem ofNat_verifyFn (bs : List Byte) {a3 : Word} (h : a3.toNat < 256) :
    BitVec.ofNat 32 (verifyFn bs (exp8Byte a3)).toNat =
      if (byteSum bs + a3.toNat) % 128 = 0 then 1#32 else 0#32 := by
  rw [verifyFn_eq_decide, exp8Byte_toNat h]
  split <;> simp [*]

/-- Settles O36: the check of A3 is the first step of the body, and past it VERIFY reads its source as CHECKSUM does. -/
theorem verifyCompletes : Obligations.VerifyCompletes := by
  refine ⟨fun s bs hlen hbytes hexp => ?completes, fun s hexp => ?badArgument⟩
  case completes =>
    have hbody := verifyBody_eq_ok.2
      ⟨(exp8Clean_iff s.a3).2 hexp, bs, hlen, hbytes, hlen ▸ fits_of_hasBytes hbytes, rfl⟩
    refine ⟨_, exec_of_body_ok (i := .verify) hbody, ?_, sameMemory_of_eq rfl rfl⟩
    simp only [State.setR0, State.setR1, ofNat_verifyFn bs hexp]
    rfl
  case badArgument =>
    have hunclean : exp8Clean s.a3 = false := by
      rw [← Bool.not_eq_true, exp8Clean_iff]
      omega
    exact exec_of_body_raise (raiseIf_bind_of_true (by rw [hunclean]; rfl) _ _ _)

end Sys2Proof.Machine
end

section
/-! Proofs for 42_sysex: the framer. What FRAME_RESET sets up (R132), what one scan of a stream ends with (R131, R133), and the
framing law (R146). -/

namespace Sys2Proof.Machine

/-! ### Bytes that stand in MEM -/

section HasBytes

variable {s t : State} {a : Nat} {b : Byte} {xs ys : List Byte}

theorem hasBytes_cons : HasBytes s a (b :: xs) ↔ s.peek a = some b ∧ HasBytes s (a + 1) xs := by
  constructor
  · intro h
    refine ⟨h 0 (Nat.succ_pos _), fun i hi => ?_⟩
    have := h (i + 1) (Nat.succ_lt_succ hi)
    rwa [← Nat.add_assoc, Nat.add_right_comm, List.getElem?_cons_succ] at this
  · rintro ⟨hhead, htail⟩ i hi
    cases i with
    | zero => exact hhead
    | succ i =>
      rw [← Nat.add_assoc, Nat.add_right_comm, List.getElem?_cons_succ]
      exact htail i (Nat.lt_of_succ_lt_succ hi)

theorem hasBytes_append : HasBytes s a (xs ++ ys) ↔ HasBytes s a xs ∧ HasBytes s (a + xs.length) ys := by
  induction xs generalizing a with
  | nil => exact ⟨fun h => ⟨fun i hi => absurd hi (Nat.not_lt_zero i), h⟩, fun ⟨_, h⟩ => h⟩
  | cons x xs ih =>
    rw [List.cons_append, hasBytes_cons, hasBytes_cons, ih, and_assoc, List.length_cons, Nat.add_right_comm,
      Nat.add_assoc a]

theorem HasBytes.of_sameMemory (h : HasBytes s a xs) (hst : SameMemory s t) : HasBytes t a xs :=
  fun i hi => (hst (a + i)).trans (h i hi)

end HasBytes

/-! ### FRAME_RESET (42_sysex R132) -/

/-- Settles O38. -/
theorem frameResetCompletes : Obligations.FrameResetCompletes := by
  intro s hfit
  refine ⟨_, exec_of_body_ok (i := .frameReset) (frameResetBody_eq_ok.2 ⟨hfit, rfl⟩), ?frame, sameMemory_of_eq rfl rfl⟩
  case frame =>
    rw [BitVec.ofNat_add, BitVec.ofNat_toNat, BitVec.ofNat_toNat, BitVec.setWidth_eq, BitVec.setWidth_eq]
    rfl

/-! ### The scan byte by byte (42_sysex R133) -/

/-- The runs that are discarded once the run that is open, if one is, has been discarded too. -/
def discardedWith (run : Option Nat) (disc : Nat) : Nat := if run.isSome then disc + 1 else disc

section Scan

variable {s : State} {i n disc : Nat} {run : Option Nat} {b : Byte}

theorem frameScan_of_start (h : s.peek i = some startByte) :
    frameScan s (n + 1) i run disc = frameScan s n (i + 1) (some i) (discardedWith run disc) := by
  rw [frameScan, loadByte_eq_ok.2 h]
  rfl

theorem frameScan_of_end {start : Nat} (h : s.peek i = some endByte) :
    frameScan s (n + 1) i (some start) disc = .ok (.found start (i - start + 1) disc) := by
  rw [frameScan, loadByte_eq_ok.2 h]
  rfl

/-- A byte that opens no run and closes none is passed over. -/
theorem frameScan_of_other (h : s.peek i = some b) (hstart : b ≠ startByte) (hend : b ≠ endByte ∨ run = none) :
    frameScan s (n + 1) i run disc = frameScan s n (i + 1) run disc := by
  rw [frameScan, loadByte_eq_ok.2 h]
  cases run with
  | none => exact if_neg hstart
  | some start =>
    have hend : b ≠ endByte := by simpa using hend
    exact (if_neg hstart).trans (if_neg hend)

/-! ### The scan over a stretch of bytes (42_sysex R131, R133) -/

theorem frameScan_skip {bs : List Byte} (hbytes : HasBytes s i bs) (hstart : startByte ∉ bs)
    (hend : endByte ∉ bs ∨ run = none) :
    frameScan s (bs.length + n) i run disc = frameScan s n (i + bs.length) run disc := by
  induction bs generalizing i with
  | nil => simp
  | cons b bs ih =>
    obtain ⟨hb, hbytes⟩ := hasBytes_cons.1 hbytes
    have hbend : b ≠ endByte ∨ run = none := hend.imp_left fun h => (List.ne_of_not_mem_cons h).symm
    rw [List.length_cons, Nat.add_right_comm, frameScan_of_other hb (List.ne_of_not_mem_cons hstart).symm hbend,
      ih hbytes (List.not_mem_of_not_mem_cons hstart) (hend.imp_left List.not_mem_of_not_mem_cons), Nat.add_right_comm,
      Nat.add_assoc]

/-- Where no END comes, each START discards the run before it, and the last one's run stays open. -/
theorem frameScan_of_no_end {v : List Byte} (hbytes : HasBytes s i v) (hend : endByte ∉ v) :
    ∃ run' disc', discardedWith run' disc' = discardedWith run disc + v.count startByte ∧
      frameScan s (v.length + n) i run disc = frameScan s n (i + v.length) run' disc' := by
  induction v generalizing i run disc with
  | nil => exact ⟨run, disc, by simp, by simp⟩
  | cons b v ih =>
    obtain ⟨hb, htail⟩ := hasBytes_cons.1 hbytes
    have hrest := List.not_mem_of_not_mem_cons hend
    rw [List.length_cons, Nat.add_right_comm, Nat.add_comm v.length 1, ← Nat.add_assoc i]
    by_cases hstart : b = startByte
    · subst hstart
      obtain ⟨run', disc', hcount, hscan⟩ := ih (run := some i) (disc := discardedWith run disc) htail hrest
      refine ⟨run', disc', ?_, (frameScan_of_start hb).trans hscan⟩
      rw [hcount, List.count_cons_self, discardedWith, Option.isSome_some, if_pos rfl]
      omega
    · obtain ⟨run', disc', hcount, hscan⟩ := ih (run := run) (disc := disc) htail hrest
      refine ⟨run', disc', ?_, (frameScan_of_other hb hstart (.inl (List.ne_of_not_mem_cons hend).symm)).trans hscan⟩
      rw [hcount, List.count_cons_of_ne hstart]

/-- Junk that holds no run: nothing is open before its first START, and no END comes after it. -/
theorem frameScan_of_junk {u v : List Byte} (hbytes : HasBytes s i (u ++ v)) (hstart : startByte ∉ u) (hend : endByte ∉ v) :
    ∃ run disc, discardedWith run disc = v.count startByte ∧
      frameScan s ((u ++ v).length + n) i none 0 = frameScan s n (i + (u ++ v).length) run disc := by
  obtain ⟨hu, hv⟩ := hasBytes_append.1 hbytes
  obtain ⟨run, disc, hcount, hscan⟩ := frameScan_of_no_end (n := n) (run := none) (disc := 0) hv hend
  refine ⟨run, disc, hcount.trans (Nat.zero_add _), ?_⟩
  rw [List.length_append, Nat.add_assoc, frameScan_skip hu hstart (.inr rfl), hscan, Nat.add_assoc]

theorem frameScan_junk_ended {u v : List Byte} (hbytes : HasBytes s i (u ++ v)) (hstart : startByte ∉ u)
    (hend : endByte ∉ v) : frameScan s (u ++ v).length i none 0 = .ok (.ended (v.count startByte)) := by
  obtain ⟨run, disc, hcount, hscan⟩ := frameScan_of_junk (n := 0) hbytes hstart hend
  rw [Nat.add_zero] at hscan
  rw [hscan, ← hcount]
  rfl

/-- A message after such junk is found, from its START to its END. -/
theorem frameScan_message_found {u v body : List Byte} (hbytes : HasBytes s i (u ++ v ++ wrap body))
    (hstart : startByte ∉ u) (hend : endByte ∉ v) (hbody : Plain body) (hlen : (u ++ v ++ wrap body).length ≤ n) :
    frameScan s n i none 0 = .ok (.found (i + (u ++ v).length) (body.length + 2) (v.count startByte)) := by
  obtain ⟨hjunk, hmessage⟩ := hasBytes_append.1 hbytes
  obtain ⟨hfirst, hrest⟩ := hasBytes_cons.1 hmessage
  obtain ⟨hmiddle, hlast⟩ := hasBytes_append.1 hrest
  obtain ⟨hlast, -⟩ := hasBytes_cons.1 hlast
  obtain ⟨k, rfl⟩ : ∃ k, n = (u ++ v).length + (body.length + (k + 1) + 1) :=
    ⟨n - (u ++ v ++ wrap body).length, by simp [wrap] at hlen ⊢; omega⟩
  obtain ⟨run, disc, hcount, hscan⟩ := frameScan_of_junk (n := body.length + (k + 1) + 1) hjunk hstart hend
  rw [hscan, frameScan_of_start hfirst, frameScan_skip hmiddle hbody.1 (.inl hbody.2), frameScan_of_end hlast, hcount]
  congr 2
  omega

end Scan

/-! ### FRAME_NEXT (42_sysex R133) -/

section FrameNext

variable {s : State} {start len disc : Nat}

theorem takeScan_found_eq : s.takeScan (.found start len disc) =
    { s with
      frameCur := BitVec.ofNat 32 (start + len), r0 := 1#32, r1 := BitVec.ofNat 32 start, r2 := BitVec.ofNat 32 len,
      r3 := BitVec.ofNat 32 disc, status := if disc > 0 then s.status ||| 0x00000200#32 else s.status } := by
  rw [State.takeScan, State.warnIf_eq]
  simp only [decide_eq_true_eq]
  rfl

theorem takeScan_ended_eq : s.takeScan (.ended disc) =
    { s with
      frameCur := s.frameEnd, r0 := 0#32, r1 := 0#32, r2 := 0#32, r3 := BitVec.ofNat 32 disc,
      status := if disc > 0 then s.status ||| 0x00000200#32 else s.status } := by
  rw [State.takeScan, State.warnIf_eq]
  simp only [decide_eq_true_eq]
  rfl

theorem takeScan_sameMemory (s : State) (r : Scan) : SameMemory s (s.takeScan r) :=
  sameMemory_of_eq (s.takeScan_mem r) (by cases r <;> simp [State.takeScan])

@[simp] theorem flag_frameActive_takeScan (s : State) (r : Scan) :
    (s.takeScan r).flag .frameActive = s.flag .frameActive := by
  cases r <;> rw [State.takeScan, State.flag_warnIf] <;> rfl

theorem exec_frameNext_of_scan {r : Scan} (hactive : s.flag .frameActive = true)
    (hscan : frameScan s (s.frameEnd.toNat - s.frameCur.toNat) s.frameCur.toNat none 0 = .ok r) :
    exec .frameNext s = .next (s.takeScan r) :=
  exec_of_body_ok (i := .frameNext) (frameNextBody_eq_ok.2 ⟨hactive, r, hscan, rfl⟩)

theorem exec_frameNext_message {u v body : List Byte} (hactive : s.flag .frameActive = true) (hstart : startByte ∉ u)
    (hend : endByte ∉ v) (hbody : Plain body) (hbytes : HasBytes s s.frameCur.toNat (u ++ v ++ wrap body))
    (hlen : s.frameCur.toNat + (u ++ v ++ wrap body).length ≤ s.frameEnd.toNat) :
    exec .frameNext s =
      .next (s.takeScan (.found (s.frameCur.toNat + (u ++ v).length) (body.length + 2) (v.count startByte))) :=
  exec_frameNext_of_scan hactive (frameScan_message_found hbytes hstart hend hbody (by omega))

theorem exec_frameNext_junk {u v : List Byte} (hactive : s.flag .frameActive = true) (hstart : startByte ∉ u)
    (hend : endByte ∉ v) (hbytes : HasBytes s s.frameCur.toNat (u ++ v))
    (hlen : s.frameCur.toNat + (u ++ v).length = s.frameEnd.toNat) :
    exec .frameNext s = .next (s.takeScan (.ended (v.count startByte))) := by
  refine exec_frameNext_of_scan hactive ?_
  rw [← hlen, Nat.add_sub_cancel_left]
  exact frameScan_junk_ended hbytes hstart hend

end FrameNext

/-- Settles O39: the scan ends as `frameScan_message_found` and `frameScan_junk_ended` say. -/
theorem frameNextCompletes : Obligations.FrameNextCompletes := by
  refine ⟨fun s u v body hactive hstart hend hbody hbytes hlen => ?message,
    fun s u v hactive hstart hend hbytes hlen => ?junk, fun s hinactive => ?noStream⟩
  case message =>
    exact ⟨_, exec_frameNext_message hactive hstart hend hbody hbytes hlen, takeScan_found_eq, takeScan_sameMemory s _⟩
  case junk =>
    exact ⟨_, exec_frameNext_junk hactive hstart hend hbytes hlen, takeScan_ended_eq, takeScan_sameMemory s _⟩
  case noStream => exact exec_of_body_raise (raiseIf_bind_of_true (by rw [hinactive]; rfl) _ _ _)

/-! ### The framing law (42_sysex R146) -/

/-- One call at a message: it yields the message's span and leaves FRAME_CUR at what follows. -/
theorem framerSpans_message {s : State} {j body : List Byte} (n : Nat) (hactive : s.flag .frameActive = true)
    (hjunk : Junk j) (hbody : Plain body) (hbytes : HasBytes s s.frameCur.toNat (j ++ wrap body))
    (hlen : s.frameCur.toNat + (j ++ wrap body).length ≤ s.frameEnd.toNat) :
    ∃ t, framerSpans (n + 1) s = (s.frameCur.toNat + j.length, body.length + 2) :: framerSpans n t ∧
      t.flag .frameActive = true ∧ SameMemory s t ∧ t.frameEnd = s.frameEnd ∧
      t.frameCur.toNat = s.frameCur.toNat + j.length + (body.length + 2) := by
  obtain ⟨u, v, rfl, hstart, hend⟩ := hjunk
  have hexec := exec_frameNext_message hactive hstart hend hbody hbytes hlen
  have hinWord : s.frameCur.toNat + (u ++ v).length + (body.length + 2) < 2 ^ 32 := by
    have hword := s.frameEnd.isLt
    simp only [wrap, List.length_append, List.length_cons, List.length_nil] at hlen ⊢
    omega
  refine ⟨s.takeScan (.found (s.frameCur.toNat + (u ++ v).length) (body.length + 2) (v.count startByte)), ?spans,
    (flag_frameActive_takeScan s _).trans hactive, takeScan_sameMemory s _, ?frameEnd, ?frameCur⟩
  case spans =>
    rw [framerSpans, hexec, takeScan_found_eq]
    simp only [if_true, BitVec.toNat_ofNat]
    rw [Nat.mod_eq_of_lt (by omega), Nat.mod_eq_of_lt (by omega)]
  case frameEnd => rw [takeScan_found_eq]
  case frameCur =>
    rw [takeScan_found_eq, BitVec.toNat_ofNat]
    exact Nat.mod_eq_of_lt hinWord

theorem framerSpans_junk {s : State} {j : List Byte} (n : Nat) (hactive : s.flag .frameActive = true) (hjunk : Junk j)
    (hbytes : HasBytes s s.frameCur.toNat j) (hlen : s.frameCur.toNat + j.length = s.frameEnd.toNat) :
    framerSpans (n + 1) s = [] := by
  obtain ⟨u, v, rfl, hstart, hend⟩ := hjunk
  rw [framerSpans, exec_frameNext_junk hactive hstart hend hbytes hlen, takeScan_ended_eq]
  rfl

/-- Settles O40, by induction over the messages: one call takes the first of them with the junk before it. -/
theorem framerYieldsExactlyTheMessages : Obligations.FramerYieldsExactlyTheMessages := by
  intro s ms last hactive hms hlast hbytes hlen
  induction ms generalizing s with
  | nil => exact framerSpans_junk 0 hactive hlast hbytes hlen
  | cons m ms ih =>
    obtain ⟨j, body⟩ := m
    obtain ⟨⟨(hjunk : Junk j), (hbody : Plain body)⟩, hrest⟩ := List.forall_mem_cons.1 hms
    obtain ⟨hfirst, hafter⟩ := hasBytes_append.1 hbytes
    have hwrap : (j ++ wrap body).length = j.length + (body.length + 2) := by simp [wrap]
    rw [streamOf, List.length_append, hwrap, ← Nat.add_assoc] at hlen
    obtain ⟨t, hspans, hactive', hmem, hend, hcur⟩ :=
      framerSpans_message (ms.length + 1) hactive hjunk hbody hfirst (by omega)
    have hstream : HasBytes t t.frameCur.toNat (streamOf ms last) := by
      rw [hcur, Nat.add_assoc, ← hwrap]
      exact hafter.of_sameMemory hmem
    rw [List.length_cons, hspans, ih t hactive' hrest hstream (by rw [hcur, hend]; omega), hcur]
    rfl

end Sys2Proof.Machine
end

section
/-! Proofs for 42_sysex: classification. What ClassifyFn answers, case by case (R134 to R137), and CLASSIFY (R138). -/

namespace Sys2Proof.Machine

/-! ### CLASSIFY (42_sysex R138) -/

/-- Settles O41: with the source in order the body writes R0 to R3 alone. -/
theorem classifyCompletes : Obligations.ClassifyCompletes := by
  intro s m hlen hbytes
  have hbody := classifyBody_eq_ok.2 ⟨m, hlen, hbytes, hlen ▸ fits_of_hasBytes hbytes, rfl⟩
  exact ⟨_, exec_of_body_ok (i := .classify) hbody, rfl, sameMemory_of_eq (by simp) (by simp)⟩

/-! ### What a message looks like (42_sysex R130, R134) -/

/-- START, at least three bytes, END. -/
def Framed (m : List Byte) : Prop := 5 ≤ m.length ∧ m[0]? = some 0xF0#8 ∧ m[m.length - 1]? = some 0xF7#8

/-- A framed message with the ids of this block. -/
def Ours (p : Params) (m : List Byte) : Prop :=
  Framed m ∧ m[1]? = some (p.mfrId.setWidth 8) ∧ m[3]? = some (p.modelId.setWidth 8)

/-- The high nibble of byte [2] is `t`. -/
def TypeNibble (m : List Byte) (t : Nat) : Prop := ∃ b : Byte, m[2]? = some b ∧ b.toNat / 16 = t

/-- The 9-byte constant of some device number (42_sysex R137). -/
def IsControl (p : Params) (mark : Byte) (m : List Byte) : Prop := ∃ dev : BitVec 4, m = controlMessage p dev mark

theorem byteAt_eq_iff {m : List Byte} {i : Nat} (h : i < m.length) (v : Byte) : byteAt m i = v ↔ m[i]? = some v := by
  simp [byteAt, List.getD_eq_getElem?_getD, List.getElem?_eq_getElem h]

theorem typeNibble_iff {m : List Byte} {b : Byte} (h : m[2]? = some b) (t : Nat) : TypeNibble m t ↔ b.toNat / 16 = t := by
  simp [TypeNibble, h]

theorem toNat_and_nibble (b : Byte) : (b &&& 0x0F#8).toNat = b.toNat % 16 :=
  (BitVec.toNat_and ..).trans (Nat.and_two_pow_sub_one_eq_mod b.toNat 4)

theorem toNat_shift_nibble (b : Byte) : (b >>> 4).toNat = b.toNat / 16 :=
  (BitVec.toNat_ushiftRight ..).trans (Nat.shiftRight_eq_div_pow b.toNat 4)

/-- Byte [2] of a control message: the type nibble 1 and the device number. -/
theorem controlByte_toNat (dev : BitVec 4) : (0x10#8 ||| dev.setWidth 8).toNat = 16 + dev.toNat := by
  revert dev
  decide

theorem eq_controlByte {b : Byte} (h : b.toNat / 16 = 1) : b = 0x10#8 ||| (BitVec.ofNat 4 b.toNat).setWidth 8 := by
  apply BitVec.eq_of_toNat_eq
  rw [controlByte_toNat, BitVec.toNat_ofNat]
  omega

theorem isControl_iff {p : Params} {mark : Byte} {m : List Byte} :
    IsControl p mark m ↔ m.length = 9 ∧ Ours p m ∧ TypeNibble m 1 ∧ m[4]? = some 0x00#8 ∧ m[5]? = some 0x00#8 ∧
      m[6]? = some 0x00#8 ∧ m[7]? = some mark := by
  constructor
  · rintro ⟨dev, rfl⟩
    have hnibble : (0x10#8 ||| dev.setWidth 8).toNat / 16 = 1 := by
      have := dev.isLt
      rw [controlByte_toNat]
      omega
    exact ⟨rfl, ⟨⟨by simp [controlMessage], rfl, rfl⟩, rfl, rfl⟩, ⟨_, rfl, hnibble⟩, rfl, rfl, rfl, rfl⟩
  · rintro ⟨hlen, ⟨⟨-, hstart, hend⟩, hmfr, hmodel⟩, ⟨b, hb, hnibble⟩, h4, h5, h6, h7⟩
    refine ⟨BitVec.ofNat 4 b.toNat, List.ext_getElem? fun i => ?_⟩
    rw [hlen] at hend
    match i with
    | 0 => exact hstart
    | 1 => exact hmfr
    | 2 => exact hb.trans (congrArg some (eq_controlByte hnibble))
    | 3 => exact hmodel
    | 4 => exact h4
    | 5 => exact h5
    | 6 => exact h6
    | 7 => exact h7
    | 8 => exact hend
    | i + 9 => exact List.getElem?_eq_none (by omega)

/-! ### What ClassifyFn answers (42_sysex R134 to R137) -/

/-- The cases of R134, in its order. -/
inductive ClassifyCase (p : Params) (m : List Byte) : Classification → Prop where
  | unframed (h : ¬Framed m) : ClassifyCase p m ⟨.unknown, .malformed, 0, 0⟩
  | otherIds {b : Byte} (hb : m[2]? = some b) (hframed : Framed m) (hids : ¬Ours p m) :
      ClassifyCase p m ⟨.unknown, .unsupported, b.toNat % 16, b.toNat / 16⟩
  | tooShort {b : Byte} (hb : m[2]? = some b) (hours : Ours p m)
      (h : b.toNat / 16 = 0 ∧ m.length < 11 ∨ b.toNat / 16 = 1 ∧ m.length < 9 ∨ b.toNat / 16 = 2 ∧ m.length < 8) :
      ClassifyCase p m ⟨.unknown, .malformed, b.toNat % 16, b.toNat / 16⟩
  | bulkDump {b : Byte} (hb : m[2]? = some b) (hours : Ours p m) (ht : b.toNat / 16 = 0) (hlen : 11 ≤ m.length) :
      ClassifyCase p m ⟨.bulkDump, .ok, b.toNat % 16, b.toNat / 16⟩
  | paramInit {b : Byte} (hb : m[2]? = some b) (h : IsControl p 0x01#8 m) :
      ClassifyCase p m ⟨.paramInit, .ok, b.toNat % 16, b.toNat / 16⟩
  | paramClose {b : Byte} (hb : m[2]? = some b) (h : IsControl p 0x00#8 m) :
      ClassifyCase p m ⟨.paramClose, .ok, b.toNat % 16, b.toNat / 16⟩
  | paramChange {b : Byte} (hb : m[2]? = some b) (hours : Ours p m) (ht : b.toNat / 16 = 1) (hlen : 9 ≤ m.length)
      (hinit : ¬IsControl p 0x01#8 m) (hclose : ¬IsControl p 0x00#8 m) :
      ClassifyCase p m ⟨.paramChange, .ok, b.toNat % 16, b.toNat / 16⟩
  | dumpRequest {b : Byte} (hb : m[2]? = some b) (hours : Ours p m) (ht : b.toNat / 16 = 2) (hlen : 8 ≤ m.length) :
      ClassifyCase p m ⟨.dumpRequest, .ok, b.toNat % 16, b.toNat / 16⟩
  | unknownType {b : Byte} (hb : m[2]? = some b) (hours : Ours p m) (ht : 3 ≤ b.toNat / 16) :
      ClassifyCase p m ⟨.unknown, .unknownType, b.toNat % 16, b.toNat / 16⟩

section Conditions

variable {p : Params} {m : List Byte}

theorem not_framed_iff (h : 5 ≤ m.length) :
    byteAt m 0 ≠ startByte ∨ byteAt m (m.length - 1) ≠ endByte ↔ ¬Framed m := by
  rw [Ne, Ne, byteAt_eq_iff (by omega), byteAt_eq_iff (by omega), ← not_and_or]
  exact not_congr ⟨fun hends => ⟨h, hends⟩, fun hframed => hframed.2⟩

theorem not_ours_iff (h : Framed m) : byteAt m 1 ≠ mfrByte p ∨ byteAt m 3 ≠ modelByte p ↔ ¬Ours p m := by
  have hlen := h.1
  rw [Ne, Ne, byteAt_eq_iff (by omega), byteAt_eq_iff (by omega), ← not_and_or]
  exact not_congr ⟨fun hids => ⟨h, hids⟩, fun hours => hours.2⟩

theorem control_condition_iff {mark : Byte} (hlen : 9 ≤ m.length) (hours : Ours p m) (ht : TypeNibble m 1) :
    m.length = 9 ∧ byteAt m 4 = 0x00#8 ∧ byteAt m 5 = 0x00#8 ∧ byteAt m 6 = 0x00#8 ∧ byteAt m 7 = mark ↔
      IsControl p mark m := by
  rw [isControl_iff, byteAt_eq_iff (by omega), byteAt_eq_iff (by omega), byteAt_eq_iff (by omega),
    byteAt_eq_iff (by omega)]
  exact and_congr_right fun _ => ⟨fun hbytes => ⟨hours, ht, hbytes⟩, fun ⟨_, _, hbytes⟩ => hbytes⟩

end Conditions

theorem classifyFn_case (p : Params) (m : List Byte) : ClassifyCase p m (classifyFn p m) := by
  by_cases hlen : m.length < 5
  · rw [classifyFn, if_pos hlen]
    exact .unframed fun h => absurd h.1 (Nat.not_le.2 hlen)
  have hb : m[2]? = some (byteAt m 2) := (byteAt_eq_iff (by omega) _).1 rfl
  by_cases hframed : Framed m
  case neg =>
    rw [classifyFn, if_neg hlen, if_pos ((not_framed_iff (by omega)).2 hframed)]
    exact .unframed hframed
  by_cases hours : Ours p m
  case neg =>
    rw [classifyFn, if_neg hlen, if_neg (mt (not_framed_iff (by omega)).1 (not_not.2 hframed)),
      if_pos ((not_ours_iff hframed).2 hours), toNat_and_nibble, toNat_shift_nibble]
    exact .otherIds hb hframed hours
  rw [classifyFn, if_neg hlen, if_neg (mt (not_framed_iff (by omega)).1 (not_not.2 hframed)),
    if_neg (mt (not_ours_iff hframed).1 (not_not.2 hours)), toNat_and_nibble, toNat_shift_nibble]
  generalize byteAt m 2 = b at hb ⊢
  have hcontrol : ∀ mark, 9 ≤ m.length → b.toNat / 16 = 1 → _ := fun mark hn ht =>
    control_condition_iff (p := p) (mark := mark) hn hours ((typeNibble_iff hb 1).2 ht)
  split_ifs with h0 hshort h1 hshort hinit hclose h2 hshort
  · exact .tooShort hb hours (.inl ⟨h0, hshort⟩)
  · exact .bulkDump hb hours h0 (by omega)
  · exact .tooShort hb hours (.inr (.inl ⟨h1, hshort⟩))
  · exact .paramInit hb ((hcontrol _ (by omega) h1).1 hinit)
  · exact .paramClose hb ((hcontrol _ (by omega) h1).1 hclose)
  · exact .paramChange hb hours h1 (by omega) (mt (hcontrol _ (by omega) h1).2 hinit)
      (mt (hcontrol _ (by omega) h1).2 hclose)
  · exact .tooShort hb hours (.inr (.inr ⟨h2, hshort⟩))
  · exact .dumpRequest hb hours h2 (by omega)
  · exact .unknownType hb hours (by omega)

/-! ### Each kind and each reason (42_sysex R134 to R137) -/

/-- What an answer of ClassifyFn says of the message, field by field. -/
structure ClassifyFacts (p : Params) (m : List Byte) (c : Classification) : Prop where
  bulkDump_iff : c.kind = .bulkDump ↔ Ours p m ∧ TypeNibble m 0 ∧ 11 ≤ m.length
  paramInit_iff : c.kind = .paramInit ↔ IsControl p 0x01#8 m
  paramClose_iff : c.kind = .paramClose ↔ IsControl p 0x00#8 m
  paramChange_iff : c.kind = .paramChange ↔
    Ours p m ∧ TypeNibble m 1 ∧ 9 ≤ m.length ∧ ¬IsControl p 0x01#8 m ∧ ¬IsControl p 0x00#8 m
  dumpRequest_iff : c.kind = .dumpRequest ↔ Ours p m ∧ TypeNibble m 2 ∧ 8 ≤ m.length
  unsupported_iff : c.reason = .unsupported ↔ Framed m ∧ ¬Ours p m
  unknownType_iff : c.reason = .unknownType ↔ Ours p m ∧ ∃ t, 3 ≤ t ∧ TypeNibble m t
  ok_iff : c.reason = .ok ↔ c.kind ≠ .unknown
  dev_typ : Framed m → ∀ b : Byte, m[2]? = some b → c.dev = b.toNat % 16 ∧ c.typ = b.toNat / 16
  unframed : ¬Framed m → c = ⟨.unknown, .malformed, 0, 0⟩

theorem IsControl.fields {p : Params} {mark : Byte} {m : List Byte} (h : IsControl p mark m) :
    Ours p m ∧ TypeNibble m 1 ∧ m.length = 9 ∧ m[7]? = some mark := by
  obtain ⟨hlen, hours, ht, -, -, -, hmark⟩ := isControl_iff.1 h
  exact ⟨hours, ht, hlen, hmark⟩

theorem not_isControl_of_not_ours {p : Params} {m : List Byte} (h : ¬Ours p m) (mark : Byte) : ¬IsControl p mark m :=
  fun hcontrol => h hcontrol.fields.1

theorem not_isControl_of_type {p : Params} {m : List Byte} {b : Byte} (hb : m[2]? = some b)
    (h : b.toNat / 16 = 1 → m.length < 9) (mark : Byte) : ¬IsControl p mark m := fun hcontrol => by
  obtain ⟨-, ht, hlen, -⟩ := hcontrol.fields
  have := h ((typeNibble_iff hb 1).1 ht)
  omega

theorem IsControl.mark_unique {p : Params} {m : List Byte} {mark mark' : Byte} (h : IsControl p mark m)
    (h' : IsControl p mark' m) : mark = mark' := by
  obtain ⟨-, -, -, hmark⟩ := h.fields
  obtain ⟨-, -, -, hmark'⟩ := h'.fields
  exact Option.some_inj.1 (hmark.symm.trans hmark')

/-- The cases exclude each other: by the framing, the ids, the type nibble, the length, and byte [7] of a control message. -/
theorem ClassifyCase.facts {p : Params} {m : List Byte} {c : Classification} (h : ClassifyCase p m c) :
    ClassifyFacts p m c := by
  cases h with
  | unframed h =>
    have hours : ¬Ours p m := fun hours => h hours.1
    constructor <;> simp [h, hours, not_isControl_of_not_ours hours]
  | otherIds hb hframed hours => constructor <;> simp [hb, hframed, hours, not_isControl_of_not_ours hours]
  | tooShort hb hours hshort =>
    have hcontrol := not_isControl_of_type (p := p) hb (by omega)
    constructor <;> simp [hb, hours, hours.1, hcontrol, typeNibble_iff hb] <;> omega
  | bulkDump hb hours ht hlen | dumpRequest hb hours ht hlen =>
    have hcontrol := not_isControl_of_type (p := p) hb (by omega)
    constructor <;> simp [hb, hours, hours.1, hcontrol, typeNibble_iff hb, ht, hlen]
  | paramInit hb h =>
    obtain ⟨hours, ht, hlen, -⟩ := h.fields
    have hclose : ¬IsControl p 0x00#8 m := fun h' => absurd (h.mark_unique h') (by decide)
    have ht := (typeNibble_iff hb 1).1 ht
    constructor <;> simp [hb, hours, hours.1, h, hclose, typeNibble_iff hb, ht]
  | paramClose hb h =>
    obtain ⟨hours, ht, hlen, -⟩ := h.fields
    have hinit : ¬IsControl p 0x01#8 m := fun h' => absurd (h.mark_unique h') (by decide)
    have ht := (typeNibble_iff hb 1).1 ht
    constructor <;> simp [hb, hours, hours.1, h, hinit, typeNibble_iff hb, ht]
  | paramChange hb hours ht hlen hinit hclose =>
    constructor <;> simp [hb, hours, hours.1, hinit, hclose, typeNibble_iff hb, ht, hlen]
  | unknownType hb hours ht =>
    have hcontrol := not_isControl_of_type (p := p) hb (by omega)
    constructor <;> simp [hb, hours, hours.1, hcontrol, typeNibble_iff hb, ht] <;> omega

theorem classifyFn_facts (p : Params) (m : List Byte) : ClassifyFacts p m (classifyFn p m) :=
  (classifyFn_case p m).facts

/-- Settles O42. -/
theorem classifiedKinds : Obligations.ClassifiedKinds := fun p m =>
  have h := classifyFn_facts p m
  ⟨h.bulkDump_iff, h.paramInit_iff, h.paramClose_iff, h.paramChange_iff, h.dumpRequest_iff, h.unsupported_iff,
    h.unknownType_iff, h.ok_iff, h.dev_typ, h.unframed⟩

end Sys2Proof.Machine
end

section
/-! Proofs for 42_sysex: ENCODE_INIT and ENCODE_CLOSE (R144, R145), layout ADDR3 as a number (30_encoding R88), and ENCODE_BULK
(R143). -/

namespace Sys2Proof.Machine

/-! ### ENCODE_INIT and ENCODE_CLOSE (42_sysex R144, R145) -/

theorem controlMessage_eq (p : Params) (dev : BitVec 4) (mark : Byte) :
    controlMessage p dev mark = [0xF0#8, p.mfrId.setWidth 8, BitVec.ofNat 8 (16 + dev.toNat), p.modelId.setWidth 8, 0#8, 0#8,
      0#8, mark, 0xF7#8] := by
  rw [← controlByte_toNat, BitVec.ofNat_toNat, BitVec.setWidth_eq]
  rfl

section Control

variable {i : Instr} {dev : BitVec 4} {mark : Byte} {s : State} (hbody : bodyOf i s = encodeControlBody dev mark s)

include hbody

theorem encodeControl_completes (hcap : 9 ≤ s.a4.toNat) (hfit : Fits s s.a2.toNat 9) :
    ∃ t, exec i s = .next t ∧ t = { s with mem := t.mem, r0 := 9#32 } ∧
      StoredAt s t s.a2.toNat (controlMessage s.params dev mark) :=
  ⟨_, exec_of_body_ok (hbody.trans (encodeControlBody_eq_ok.2 ⟨hcap, hfit, rfl⟩)), rfl,
    storedAt_of_fits (by simp) (by simp) hfit⟩

theorem encodeControl_of_capacity (hcap : s.a4.toNat < 9) : exec i s = .next (s.raiseFault .capacity 9) :=
  exec_of_body_raise (hbody.trans (checkDst_bind_of_capacity _ hcap))

theorem encodeControl_of_not_fits (hcap : 9 ≤ s.a4.toNat) (hfit : ¬Fits s s.a2.toNat 9) :
    exec i s = .next (s.raiseFault .bounds s.a2.toNat) :=
  exec_of_body_raise (hbody.trans (checkDst_bind_of_not_fits _ hcap hfit))

end Control

/-- Settles O46: the two commands differ in byte [7] alone. -/
theorem encodeControlCompletes : Obligations.EncodeControlCompletes := by
  intro s dev msg
  have hmsg : ∀ mark, msg mark = controlMessage s.params dev mark := fun mark => (controlMessage_eq s.params dev mark).symm
  rw [hmsg, hmsg]
  have hinit : bodyOf (.encodeInit dev) s = encodeControlBody dev 0x01#8 s := rfl
  have hclose : bodyOf (.encodeClose dev) s = encodeControlBody dev 0x00#8 s := rfl
  exact ⟨fun hcap hfit => ⟨encodeControl_completes hinit hcap hfit, encodeControl_completes hclose hcap hfit⟩,
    fun hcap => ⟨encodeControl_of_capacity hinit hcap, encodeControl_of_capacity hclose hcap⟩,
    fun hcap hfit => ⟨encodeControl_of_not_fits hinit hcap hfit, encodeControl_of_not_fits hclose hcap hfit⟩⟩

/-! ### Layout ADDR3 as a number (30_encoding R88) -/

/-- Bits above a number's own are added to it. -/
theorem or_shiftLeft_eq_add {a k : Nat} (h : a < 2 ^ k) (b : Nat) : a ||| (b <<< k) = a + 2 ^ k * b := by
  rw [Nat.or_comm, ← Nat.shiftLeft_add_eq_or_of_lt h, Nat.shiftLeft_eq, Nat.add_comm, Nat.mul_comm]

theorem shiftLeft_or_eq_add {a k : Nat} (h : a < 2 ^ k) (b : Nat) : (b <<< k) ||| a = 2 ^ k * b + a := by
  rw [Nat.or_comm, or_shiftLeft_eq_add h, Nat.add_comm]

theorem toNat_append_eq_add {n k : Nat} (x : BitVec n) (y : BitVec k) : (x ++ y).toNat = 2 ^ k * x.toNat + y.toNat := by
  rw [BitVec.toNat_append, shiftLeft_or_eq_add y.isLt]

theorem addr3Clean_iff_toNat (v : Word) : addr3Clean v = true ↔
    (v.toNat / 8388608 = 0 ∧ v.toNat / 32768 % 2 = 0) ∧ v.toNat / 128 % 2 = 0 := by
  have htop : v.extractLsb' 23 9 = 0#9 ↔ v.toNat / 8388608 = 0 := by
    have := v.isLt
    rw [BitVec.toNat_eq, BitVec.extractLsb'_toNat, Nat.shiftRight_eq_div_pow, BitVec.toNat_ofNat]
    omega
  rw [addr3Clean, Bool.and_eq_true, Bool.and_eq_true, beq_iff_eq, htop, Bool.not_eq_true', Bool.not_eq_true', BitVec.getLsbD,
    BitVec.getLsbD, Nat.testBit_eq_decide_div_mod_eq, Nat.testBit_eq_decide_div_mod_eq, decide_eq_false_iff_not,
    decide_eq_false_iff_not]
  omega

theorem addr3High_toNat (v : Word) : (addr3High v).toNat = v.toNat / 65536 % 128 := by
  rw [addr3High, BitVec.extractLsb'_toNat, Nat.shiftRight_eq_div_pow]

theorem addr3Mid_toNat (v : Word) : (addr3Mid v).toNat = v.toNat / 256 % 128 := by
  rw [addr3Mid, BitVec.extractLsb'_toNat, Nat.shiftRight_eq_div_pow]

theorem addr3Low_toNat (v : Word) : (addr3Low v).toNat = v.toNat % 128 := by
  rw [addr3Low, BitVec.extractLsb'_toNat, Nat.shiftRight_zero]

theorem addr3_toNat_of_clean {v : Word} (h : addr3Clean v = true) :
    v.toNat = 65536 * (addr3High v).toNat + 256 * (addr3Mid v).toNat + (addr3Low v).toNat := by
  have hreserved := (addr3Clean_iff_toNat v).1 h
  rw [addr3High_toNat, addr3Mid_toNat, addr3Low_toNat]
  omega

/-- The fields of a word that is put together in layout ADDR3. -/
theorem addr3_of_fields {v : Word} {ah am al : BitVec 7} (h : v = 0#9 ++ ah ++ 0#1 ++ am ++ 0#1 ++ al) :
    addr3Clean v = true ∧ addr3High v = ah ∧ addr3Mid v = am ∧ addr3Low v = al := by
  have hnat : v.toNat = 65536 * ah.toNat + 256 * am.toNat + al.toNat := by
    rw [h]
    simp only [toNat_append_eq_add, BitVec.toNat_ofNat]
    omega
  have := ah.isLt
  have := am.isLt
  have := al.isLt
  rw [addr3Clean_iff_toNat, BitVec.toNat_eq, BitVec.toNat_eq, BitVec.toNat_eq, addr3High_toNat, addr3Mid_toNat,
    addr3Low_toNat]
  omega

/-! ### ENCODE_BULK (42_sysex R139, R140, R143) -/

/-- A packed payload of at most P(14335) bytes has a length that BH and BL can hold. -/
theorem packedLen_lt {n : Nat} (h : n ≤ 14335) : packedLen n < 16384 := by
  rw [packedLen_eq]
  omega

theorem bulkBody_packFn_eq (a3 : Word) {raw : List Byte} (hmax : raw.length ≤ 14335) : bulkBody a3 (packFn raw) =
    [BitVec.ofNat 8 (packedLen raw.length / 128), BitVec.ofNat 8 (packedLen raw.length % 128), (addr3High a3).setWidth 8,
      (addr3Mid a3).setWidth 8, (addr3Low a3).setWidth 8] ++ packFn raw := by
  have hhigh : (packedLen raw.length >>> 7) &&& 0x7F = packedLen raw.length / 128 := by
    have := packedLen_lt hmax
    rw [Nat.shiftRight_eq_div_pow, Nat.and_two_pow_sub_one_eq_mod _ 7]
    omega
  have hlow : packedLen raw.length &&& 0x7F = packedLen raw.length % 128 := Nat.and_two_pow_sub_one_eq_mod _ 7
  rw [bulkBody, length_packFn, hhigh, hlow]

theorem bulkMessage_eq (p : Params) (dev : BitVec 4) (a3 : Word) (raw : List Byte) :
    bulkMessage p dev a3 raw = [0xF0#8, p.mfrId.setWidth 8, dev.setWidth 8, p.modelId.setWidth 8] ++
      bulkBody a3 (packFn raw) ++ [BitVec.ofNat 8 (checksumFn (bulkBody a3 (packFn raw))), 0xF7#8] := by
  rw [bulkMessage, BitVec.zero_or]
  rfl

/-- With A3, its source and its destination in order ENCODE_BULK stores the message of R143. -/
theorem exec_encodeBulk {s : State} {dev : BitVec 4} {raw : List Byte} (hclean : addr3Clean s.a3 = true)
    (hlen : raw.length = s.a1.toNat) (hbytes : HasBytes s s.a0.toNat raw) (hmax : raw.length ≤ Config.maxRawPayload)
    (hcap : packedLen raw.length + 11 ≤ s.a4.toNat) (hfit : Fits s s.a2.toNat (packedLen raw.length + 11))
    (hapart : Apart s.a0.toNat raw.length s.a2.toNat (packedLen raw.length + 11)) :
    ∃ t, exec (.encodeBulk dev) s = .next t ∧
      t = { s with
        mem := t.mem, r0 := BitVec.ofNat 32 (packedLen raw.length + 11), r1 := BitVec.ofNat 32 (packedLen raw.length),
        r2 := BitVec.ofNat 32 (checksumFn (bulkBody s.a3 (packFn raw))) } ∧
      StoredAt s t s.a2.toNat (bulkMessage s.params dev s.a3 raw) := by
  rw [← length_bulkMessage s.params dev s.a3 raw] at hcap hfit hapart
  have hbody := encodeBulkBody_eq_ok.2
    ⟨hclean, hlen ▸ hmax, raw, hlen, hbytes, hlen ▸ fits_of_hasBytes hbytes, hcap, hfit, hlen ▸ hapart, rfl⟩
  refine ⟨_, exec_of_body_ok (i := .encodeBulk dev) hbody, ?frame, storedAt_of_fits (by simp) (by simp) hfit⟩
  case frame =>
    simp only [State.storeBytes, State.setR0, State.setR1, State.setR2, length_bulkMessage, length_packFn]

/-- Settles O45. -/
theorem encodeBulkCompletes : Obligations.EncodeBulkCompletes := by
  intro s dev ah am al raw k body cs msg ha3 hlen hbytes hmax hcap hfit hapart
  obtain ⟨hclean, hhigh, hmid, hlow⟩ := addr3_of_fields ha3
  have hbody : bulkBody s.a3 (packFn raw) = body := by
    rw [bulkBody_packFn_eq _ hmax, hhigh, hmid, hlow]
  obtain ⟨t, hexec, hframe, hstored⟩ := exec_encodeBulk (dev := dev) hclean hlen hbytes hmax hcap hfit hapart
  rw [bulkMessage_eq] at hstored
  rw [hbody] at hframe hstored
  exact ⟨t, hexec, hframe, hstored⟩

end Sys2Proof.Machine
end

section
/-! Proofs for 42_sysex: DECODE_BULK. The parts of a message and what the command reads from them (R139 to R142), where it faults
and what it leaves (R142), and that it undoes ENCODE_BULK (R147). -/

namespace Sys2Proof.Machine

/-! ### Parts of a message (00_scope R9) -/

theorem getElem?_slice (m : List Byte) (i j k : Nat) : (slice m i j)[k]? = if i + k ≤ j then m[i + k]? else none := by
  rw [slice, List.getElem?_drop, List.getElem?_take]
  exact if_congr Nat.lt_succ_iff rfl rfl

theorem length_slice (m : List Byte) (i j : Nat) : (slice m i j).length = min (j + 1) m.length - i := by
  rw [slice, List.length_drop, List.length_take]

theorem slice_eq_middle {m pre mid post : List Byte} {i j : Nat} (hm : m = pre ++ mid ++ post) (hi : pre.length = i)
    (hj : j + 1 = i + mid.length) : slice m i j = mid := by
  subst hm hi
  rw [slice, hj, ← List.length_append, List.take_left, List.drop_left]

theorem firstNoncleanField_eq_none_iff {m : List Byte} (h : 2 ≤ m.length) : firstNoncleanField m = none ↔
    ∀ j b, 4 ≤ j → j + 2 ≤ m.length → m[j]? = some b → b.getLsbD 7 = false := by
  rw [firstNoncleanField, Option.map_eq_none_iff, firstNonclean_eq_none_iff]
  constructor
  · intro hclean j b hlo hhi hb
    obtain ⟨k, rfl⟩ := Nat.exists_eq_add_of_le hlo
    refine hclean b (List.mem_iff_getElem?.2 ⟨k, ?_⟩)
    rw [getElem?_slice, if_pos (by omega), hb]
  · intro hclean b hb
    obtain ⟨k, hk⟩ := List.mem_iff_getElem?.1 hb
    rw [getElem?_slice] at hk
    split at hk
    next hle => exact hclean (4 + k) b (by omega) (by omega) hk
    next => cases hk

theorem firstNoncleanField_eq_some {m : List Byte} {i : Nat} (hlo : 4 ≤ i) (hhi : i + 2 ≤ m.length)
    (hset : ∃ b, m[i]? = some b ∧ b.getLsbD 7 = true)
    (hbefore : ∀ j b, 4 ≤ j → j < i → m[j]? = some b → b.getLsbD 7 = false) : firstNoncleanField m = some i := by
  obtain ⟨k, rfl⟩ := Nat.exists_eq_add_of_le hlo
  have hat : ∀ j, j ≤ k → (slice m 4 (m.length - 2))[j]? = m[4 + j]? := fun j hj => by
    rw [getElem?_slice, if_pos (by omega)]
  have hfirst : firstNonclean (slice m 4 (m.length - 2)) = some k :=
    firstNonclean_eq_some (by rwa [hat k le_rfl]) fun j hj b hb =>
      hbefore (4 + j) b (by omega) (by omega) ((hat j hj.le).symm.trans hb)
  rw [firstNoncleanField, hfirst, Nat.add_comm]
  rfl

/-! ### The body step by step (42_sysex R142) -/

/-- What DECODE_BULK leaves once every check of the message `m` has passed. -/
def State.decoded (s : State) (m : List Byte) : State :=
  let out := unpackFn (slice m 9 (8 + (m.length - 11)))
  let csRx := byteAt m (m.length - 2)
  let csOk := verifyFn (decodeSpan s.csSpan m) csRx
  (((((((s.storeBytes s.a2.toNat out).setR0 (unpackedLen (m.length - 11))).setR1 (byteCount m)).setR2 (addressTriple m)).setR3
    (decodeReport csRx (checksumFn (decodeSpan s.csSpan m)) csOk (byteCount m == m.length - 11)
      (classifyFn s.params m).dev)).warnIf (!csOk) .wCsBad).warnIf
    (byteCount m != m.length - 11) .wBcMismatch).warnIf (firstNoncleanField m).isSome .wNonclean

theorem length_unpackFn_payload (m : List Byte) :
    (unpackFn (slice m 9 (8 + (m.length - 11)))).length = unpackedLen (m.length - 11) := by
  have hlen : min (8 + (m.length - 11) + 1) m.length - 9 = m.length - 11 := by omega
  rw [length_unpackFn, length_slice, hlen]

section Body

variable {s : State} {m : List Byte} (hspan : s.csSpan ≠ 3#2) (hlen : m.length = s.a1.toNat)
  (hbytes : HasBytes s s.a0.toNat m)

include hspan hlen hbytes

theorem decodeBulkBody_of_source :
    decodeBulkBody s =
      (raiseIf ((classifyFn s.params m).reason == .unsupported) .unsupportedMfrModel s.a0.toNat >>= fun _ =>
      raiseIf ((classifyFn s.params m).kind != .bulkDump) .malformedMessage
        ((classifyFn s.params m).kind.code ||| ((classifyFn s.params m).reason.code <<< 8)) >>= fun _ =>
      refuseNonclean s s.a0.toNat (firstNoncleanField m) >>= fun _ =>
      checkDst s s.a2.toNat (unpackedLen (m.length - 11)) s.a4.toNat >>= fun _ =>
      raiseIf (overlaps s.a0.toNat m.length s.a2.toNat (unpackedLen (m.length - 11))) .overlap s.a2.toNat >>= fun _ =>
      .ok (s.decoded m)) := by
  have hpass : (s.csSpan == 3#2) = false := beq_eq_false_iff_ne.2 hspan
  simp only [State.decoded, ← length_unpackFn_payload m]
  rw [decodeBulkBody, hpass]
  exact source_bind hlen hbytes _

/-- On a bulk dump the body goes on to the strict mode's check. -/
theorem decodeBulkBody_of_bulkDump (hkind : (classifyFn s.params m).kind = .bulkDump) :
    decodeBulkBody s =
      (refuseNonclean s s.a0.toNat (firstNoncleanField m) >>= fun _ =>
      checkDst s s.a2.toNat (unpackedLen (m.length - 11)) s.a4.toNat >>= fun _ =>
      raiseIf (overlaps s.a0.toNat m.length s.a2.toNat (unpackedLen (m.length - 11))) .overlap s.a2.toNat >>= fun _ =>
      .ok (s.decoded m)) := by
  have hreason : (classifyFn s.params m).reason = .ok := (classifyFn_facts s.params m).ok_iff.2 (by rw [hkind]; decide)
  rw [decodeBulkBody_of_source hspan hlen hbytes, hkind, hreason]
  rfl

/-- In strict mode the message must be clean from byte [4] on, in lenient mode it may be any: past that check the body goes on to
the destination. -/
theorem decodeBulkBody_of_accepted (hkind : (classifyFn s.params m).kind = .bulkDump)
    (haccepted : firstNoncleanField m = none ∨ s.unpackStrict = false) :
    decodeBulkBody s =
      (checkDst s s.a2.toNat (unpackedLen (m.length - 11)) s.a4.toNat >>= fun _ =>
      raiseIf (overlaps s.a0.toNat m.length s.a2.toNat (unpackedLen (m.length - 11))) .overlap s.a2.toNat >>= fun _ =>
      .ok (s.decoded m)) := by
  rw [decodeBulkBody_of_bulkDump hspan hlen hbytes hkind, refuseNonclean_eq_ok (u := ()) |>.2 haccepted]
  rfl

end Body

/-! ### Where DECODE_BULK faults (42_sysex R142) -/

theorem classification_info_eq (k : Kind) (r : Reason) : k.code ||| (r.code <<< 8) = k.code + 256 * r.code :=
  or_shiftLeft_eq_add (by cases k <;> decide) r.code

theorem length_of_bulkDump {p : Params} {m : List Byte} (h : (classifyFn p m).kind = .bulkDump) : 11 ≤ m.length := by
  obtain ⟨-, -, hlen⟩ := (classifyFn_facts p m).bulkDump_iff.1 h
  exact hlen

/-- Settles O44: the checks come in the order of `decodeBulkBody_of_source`. -/
theorem decodeBulkFaults : Obligations.DecodeBulkFaults := by
  intro s
  refine ⟨fun hspan => ?reservedSpan, fun hspan => ⟨fun hfit => ?source, fun m hlen hbytes => ⟨fun hreason => ?otherIds,
    fun hreason hkind => ?otherKind, fun hkind i hlo hhi hstrict hset hbefore => ?nonclean,
    fun hkind haccepted => ?destination⟩⟩⟩
  case reservedSpan => exact exec_of_body_raise (raiseIf_bind_of_true (beq_iff_eq.2 hspan) _ _ _)
  case source =>
    exact exec_of_body_raise (raiseIf_bind_eq_error (beq_eq_false_iff_ne.2 hspan) (checkSrc_bind_of_not_fits hfit _))
  case otherIds =>
    exact exec_of_body_raise ((decodeBulkBody_of_source hspan hlen hbytes).trans
      (raiseIf_bind_of_true (beq_iff_eq.2 hreason) _ _ _))
  case otherKind =>
    rw [← classification_info_eq]
    exact exec_of_body_raise ((decodeBulkBody_of_source hspan hlen hbytes).trans
      (raiseIf_bind_eq_error (beq_eq_false_iff_ne.2 hreason) (raiseIf_bind_of_true (bne_iff_ne.2 hkind) _ _ _)))
  case nonclean =>
    exact exec_of_body_raise ((decodeBulkBody_of_bulkDump hspan hlen hbytes hkind).trans (cmd_bind_eq_error.2
      (.inl (refuseNonclean_eq_error.2 ⟨i, firstNoncleanField_eq_some hlo hhi hset hbefore, hstrict, rfl⟩))))
  case destination =>
    have hmin := length_of_bulkDump hkind
    exact exec_of_destination_faults (decodeBulkBody_of_accepted hspan hlen hbytes hkind
      (haccepted.symm.imp_left (firstNoncleanField_eq_none_iff (by omega)).2))

/-! ### What DECODE_BULK reports (42_sysex R140 to R142) -/

theorem low7_eq (b : Byte) : low7 b = b.toNat % 128 := toNat_and_clean b

theorem byteCount_eq (m : List Byte) : byteCount m = 128 * ((byteAt m 4).toNat % 128) + (byteAt m 5).toNat % 128 := by
  rw [byteCount, low7_eq, low7_eq, shiftLeft_or_eq_add (k := 7) (by omega)]
  rfl

theorem addressTriple_eq (m : List Byte) : addressTriple m =
    65536 * ((byteAt m 6).toNat % 128) + 256 * ((byteAt m 7).toNat % 128) + (byteAt m 8).toNat % 128 := by
  rw [addressTriple, low7_eq, low7_eq, low7_eq, Nat.or_assoc, shiftLeft_or_eq_add (k := 8) (by omega),
    shiftLeft_or_eq_add (k := 16) (by omega)]
  omega

theorem decodeReport_eq (csRx : Byte) {csCalc : Nat} (h : csCalc < 128) (csOk bcMatch : Bool) (dev : Nat) :
    decodeReport csRx csCalc csOk bcMatch dev = csRx.toNat + 256 * csCalc + (if csOk then 65536 else 0)
      + (if bcMatch then 131072 else 0) + 16777216 * dev := by
  have hrx := csRx.isLt
  have hok := csOk.toNat_le
  have hbc := bcMatch.toNat_le
  rw [decodeReport, or_shiftLeft_eq_add (k := 8) (by omega), or_shiftLeft_eq_add (k := 16) (by omega),
    or_shiftLeft_eq_add (k := 17) (by omega), or_shiftLeft_eq_add (k := 24) (by omega)]
  cases csOk <;> cases bcMatch <;> rfl

/-- A warning as a word that is added to STATUS (60_exceptions R215). -/
theorem State.warnIf_eq_or (s : State) (c : Bool) (b : StatusBit) :
    s.warnIf c b = { s with status := s.status ||| if c then 1#32 <<< b.index else 0#32 } := by
  cases c
  · simp [State.warnIf]
  · rfl

theorem State.decoded_eq (s : State) (m : List Byte) :
    s.decoded m = { s with
      mem := (s.decoded m).mem, r0 := BitVec.ofNat 32 (unpackedLen (m.length - 11)), r1 := BitVec.ofNat 32 (byteCount m),
      r2 := BitVec.ofNat 32 (addressTriple m),
      r3 := BitVec.ofNat 32 ((byteAt m (m.length - 2)).toNat + 256 * checksumFn (decodeSpan s.csSpan m)
        + (if (byteSum (decodeSpan s.csSpan m) + (byteAt m (m.length - 2)).toNat) % 128 = 0 then 65536 else 0)
        + (if byteCount m = m.length - 11 then 131072 else 0) + 16777216 * (classifyFn s.params m).dev),
      status := s.status
        ||| (if (byteSum (decodeSpan s.csSpan m) + (byteAt m (m.length - 2)).toNat) % 128 = 0 then 0#32 else 0x00000800#32)
        ||| (if byteCount m = m.length - 11 then 0#32 else 0x00000400#32)
        ||| (if (firstNoncleanField m).isSome then 0x00000100#32 else 0#32) } := by
  simp only [State.decoded, State.warnIf_eq_or, decodeReport_eq _ (checksumFn_lt _), verifyFn_eq_decide, State.setR0,
    State.setR1, State.setR2, State.setR3, State.storeBytes, decide_eq_true_eq, beq_iff_eq, bne_iff_ne, Bool.not_eq_true',
    decide_eq_false_iff_not, ite_not]
  rfl

/-! ### A bulk dump's parts (42_sysex R139) -/

/-- START, the ids, type nibble 0 and the device, BH BL AH AM AL, the packed payload, the checksum, END. -/
def dumpMessage (p : Params) (dev : BitVec 4) (bh bl ah am al : Byte) (payload : List Byte) (cs : Byte) : List Byte :=
  [0xF0#8, p.mfrId.setWidth 8, dev.setWidth 8, p.modelId.setWidth 8] ++ [bh, bl, ah, am, al] ++ payload ++ [cs, 0xF7#8]

section Dump

variable (p : Params) (dev : BitVec 4) (bh bl ah am al : Byte) (payload : List Byte) (cs : Byte)

theorem length_dumpMessage : (dumpMessage p dev bh bl ah am al payload cs).length = payload.length + 11 := by
  simp [dumpMessage]

theorem getElem?_dumpMessage_checksum :
    (dumpMessage p dev bh bl ah am al payload cs)[payload.length + 9]? = some cs := by
  simp [dumpMessage]

theorem getElem?_dumpMessage_end :
    (dumpMessage p dev bh bl ah am al payload cs)[payload.length + 10]? = some 0xF7#8 := by
  simp [dumpMessage]

theorem dumpMessage_ours : Ours p (dumpMessage p dev bh bl ah am al payload cs) := by
  refine ⟨⟨?_, rfl, ?_⟩, rfl, rfl⟩
  · rw [length_dumpMessage]
    omega
  · rw [length_dumpMessage]
    exact getElem?_dumpMessage_end p dev bh bl ah am al payload cs

/-- It classifies as a bulk dump from its device. -/
theorem classifyFn_dumpMessage :
    (classifyFn p (dumpMessage p dev bh bl ah am al payload cs)).kind = .bulkDump ∧
      (classifyFn p (dumpMessage p dev bh bl ah am al payload cs)).dev = dev.toNat := by
  have hfacts := classifyFn_facts p (dumpMessage p dev bh bl ah am al payload cs)
  have hours := dumpMessage_ours p dev bh bl ah am al payload cs
  have hbyte : (dumpMessage p dev bh bl ah am al payload cs)[2]? = some (dev.setWidth 8) := rfl
  have hdev : (dev.setWidth 8).toNat = dev.toNat := BitVec.toNat_setWidth_of_le (by decide)
  have hlt := dev.isLt
  refine ⟨hfacts.bulkDump_iff.2 ⟨hours, ⟨_, hbyte, by omega⟩, by rw [length_dumpMessage]; omega⟩, ?_⟩
  rw [(hfacts.dev_typ hours.1 _ hbyte).1, hdev]
  exact Nat.mod_eq_of_lt hlt

theorem slice_dumpMessage_payload : slice (dumpMessage p dev bh bl ah am al payload cs) 9 (8 + payload.length) = payload :=
  slice_eq_middle (pre := [0xF0#8, p.mfrId.setWidth 8, dev.setWidth 8, p.modelId.setWidth 8] ++ [bh, bl, ah, am, al])
    (post := [cs, 0xF7#8]) rfl rfl (by omega)

/-- The bytes that the strict mode's check ranges over. -/
theorem slice_dumpMessage_fields : slice (dumpMessage p dev bh bl ah am al payload cs) 4 (payload.length + 9) =
    [bh, bl, ah, am, al] ++ payload ++ [cs] :=
  slice_eq_middle (pre := [0xF0#8, p.mfrId.setWidth 8, dev.setWidth 8, p.modelId.setWidth 8]) (post := [0xF7#8])
    (by simp [dumpMessage]) rfl (by simp; omega)

/-- The span of each CS_SPAN but the reserved one (42_sysex R141). -/
theorem decodeSpan_dumpMessage (c : BitVec 2) : decodeSpan c (dumpMessage p dev bh bl ah am al payload cs) =
    if c = 0#2 then [bh, bl, ah, am, al] ++ payload else if c = 1#2 then [ah, am, al] ++ payload else [ah, am, al] := by
  rw [decodeSpan, length_dumpMessage]
  refine if_congr Iff.rfl ?whole (if_congr Iff.rfl ?fromAddress ?address)
  case whole =>
    exact slice_eq_middle (pre := [0xF0#8, p.mfrId.setWidth 8, dev.setWidth 8, p.modelId.setWidth 8])
      (post := [cs, 0xF7#8]) rfl rfl (by simp; omega)
  case fromAddress =>
    exact slice_eq_middle (pre := [0xF0#8, p.mfrId.setWidth 8, dev.setWidth 8, p.modelId.setWidth 8, bh, bl])
      (post := [cs, 0xF7#8]) rfl rfl (by simp; omega)
  case address => rfl

theorem byteAt_dumpMessage_checksum : byteAt (dumpMessage p dev bh bl ah am al payload cs) (payload.length + 9) = cs :=
  (byteAt_eq_iff (by rw [length_dumpMessage]; omega) cs).2 (getElem?_dumpMessage_checksum ..)

theorem firstNoncleanField_dumpMessage_isSome : (firstNoncleanField (dumpMessage p dev bh bl ah am al payload cs)).isSome =
    ([bh, bl, ah, am, al] ++ payload ++ [cs]).any fun b => b.getLsbD 7 := by
  rw [firstNoncleanField, length_dumpMessage, Option.isSome_map, Nat.add_sub_assoc (by decide), slice_dumpMessage_fields,
    firstNonclean_isSome]

end Dump

/-! ### DECODE_BULK completes (42_sysex R142) -/

@[simp] theorem State.decoded_params (s : State) (m : List Byte) : (s.decoded m).params = s.params := by
  simp [State.decoded]

@[simp] theorem State.decoded_mem (s : State) (m : List Byte) :
    (s.decoded m).mem = cellWriteAll s.mem s.a2.toNat (unpackFn (slice m 9 (8 + (m.length - 11)))) := by
  simp [State.decoded]

theorem State.decoded_of_dumpMessage {s : State} {dev : BitVec 4} {bh bl ah am al cs : Byte} {payload m span : List Byte}
    (hm : m = dumpMessage s.params dev bh bl ah am al payload cs) (hspan : decodeSpan s.csSpan m = span) :
    s.decoded m = { s with
      mem := (s.decoded m).mem, r0 := BitVec.ofNat 32 (unpackedLen payload.length),
      r1 := BitVec.ofNat 32 (128 * (bh.toNat % 128) + bl.toNat % 128),
      r2 := BitVec.ofNat 32 (65536 * (ah.toNat % 128) + 256 * (am.toNat % 128) + al.toNat % 128),
      r3 := BitVec.ofNat 32 (cs.toNat + 256 * checksumFn span
        + (if (byteSum span + cs.toNat) % 128 = 0 then 65536 else 0)
        + (if 128 * (bh.toNat % 128) + bl.toNat % 128 = payload.length then 131072 else 0) + 16777216 * dev.toNat),
      status := s.status ||| (if (byteSum span + cs.toNat) % 128 = 0 then 0#32 else 0x00000800#32)
        ||| (if 128 * (bh.toNat % 128) + bl.toNat % 128 = payload.length then 0#32 else 0x00000400#32)
        ||| (if ([bh, bl, ah, am, al] ++ payload ++ [cs]).any fun b => b.getLsbD 7 then 0x00000100#32 else 0#32) } := by
  have hcount : byteCount m = 128 * (bh.toNat % 128) + bl.toNat % 128 := hm ▸ byteCount_eq _
  have htriple : addressTriple m = 65536 * (ah.toNat % 128) + 256 * (am.toNat % 128) + al.toNat % 128 :=
    hm ▸ addressTriple_eq _
  have hlen : m.length = payload.length + 11 := hm ▸ length_dumpMessage ..
  have hchecksum : byteAt m (m.length - 2) = cs := by
    rw [hlen, hm]
    exact byteAt_dumpMessage_checksum ..
  have hdev : (classifyFn s.params m).dev = dev.toNat := hm ▸ (classifyFn_dumpMessage ..).2
  have hfields := hm ▸ firstNoncleanField_dumpMessage_isSome s.params dev bh bl ah am al payload cs
  refine (s.decoded_eq m).trans ?_
  rw [hcount, htriple, hchecksum, hdev, hfields, hspan, hlen, Nat.add_sub_cancel]

/-- Settles O43. -/
theorem decodeBulkCompletes : Obligations.DecodeBulkCompletes := by
  intro s dev bh bl ah am al cs payload head m span sum bc nonclean n hlen hbytes hcsSpan haccepted hcap hfit hapart
  have hpayload : m.length - 11 = payload.length := by
    rw [show m.length = payload.length + 11 from length_dumpMessage .., Nat.add_sub_cancel]
  have hisSome : (firstNoncleanField m).isSome = nonclean := firstNoncleanField_dumpMessage_isSome ..
  have hclean : firstNoncleanField m = none ∨ s.unpackStrict = false :=
    haccepted.imp_left fun h => Option.not_isSome_iff_eq_none.1 (by rw [hisSome, h]; decide)
  have hbody := decodeBulkBody_of_accepted hcsSpan hlen hbytes (classifyFn_dumpMessage ..).1 hclean
  rw [hpayload] at hbody
  refine ⟨_, exec_of_destination (i := .decodeBulk) hbody hcap hfit hapart, ?frame, ?stored⟩
  case frame =>
    have hspan : decodeSpan s.csSpan m = span := decodeSpan_dumpMessage ..
    exact State.decoded_of_dumpMessage rfl hspan
  case stored =>
    have hslice : slice m 9 (8 + (m.length - 11)) = payload := by
      rw [hpayload]
      exact slice_dumpMessage_payload ..
    exact storedAt_of_fits (by rw [State.decoded_mem, hslice]) (s.decoded_params m) (by rwa [length_unpackFn])

end Sys2Proof.Machine
end

section
/-! Proofs for 42_sysex: DECODE_BULK undoes ENCODE_BULK (R147). The message that ENCODE_BULK builds is a bulk dump of clean bytes
whose byte count and checksum agree with its payload. -/

namespace Sys2Proof.Machine

/-! ### The message of ENCODE_BULK as a bulk dump (42_sysex R139, R143) -/

theorem clean_of_toNat_lt {b : Byte} (h : b.toNat < 128) : b.getLsbD 7 = false := Nat.testBit_lt_two_pow h

theorem bulkBody_clean (a3 : Word) (raw : List Byte) : ∀ b ∈ bulkBody a3 (packFn raw), b.getLsbD 7 = false := by
  have hcount : ∀ n, (BitVec.ofNat 8 (n &&& 0x7F)).getLsbD 7 = false := fun n => by
    refine clean_of_toNat_lt ?_
    rw [Nat.and_two_pow_sub_one_eq_mod n 7, BitVec.toNat_ofNat]
    omega
  have haddr : ∀ x : BitVec 7, (x.setWidth 8).getLsbD 7 = false := fun x => by
    rw [BitVec.getLsbD_setWidth, BitVec.getLsbD_of_ge x 7 le_rfl, Bool.and_false]
  simp only [bulkBody, List.forall_mem_append, List.forall_mem_cons, hcount, haddr, true_and]
  exact ⟨List.forall_mem_nil _, packFn_clean raw⟩

theorem fields_bulkMessage_clean (a3 : Word) (raw : List Byte) :
    ((bulkBody a3 (packFn raw) ++ [BitVec.ofNat 8 (checksumFn (bulkBody a3 (packFn raw)))]).any fun b => b.getLsbD 7) =
      false := by
  have hchecksum : (BitVec.ofNat 8 (checksumFn (bulkBody a3 (packFn raw)))).getLsbD 7 = false := by
    have := checksumFn_lt (bulkBody a3 (packFn raw))
    refine clean_of_toNat_lt ?_
    rw [BitVec.toNat_ofNat]
    omega
  refine List.any_eq_false.2 fun b hb => Bool.not_eq_true _ ▸ ?_
  rcases List.mem_append.1 hb with hbody | hlast
  · exact bulkBody_clean a3 raw b hbody
  · exact List.eq_of_mem_singleton hlast ▸ hchecksum

/-- Bits 16, 17 and 27:24 of a report (42_sysex R142). -/
theorem report_fields {v : Word} {n : Nat} {dev : BitVec 4} (hn : n < 65536)
    (hv : v.toNat = n + 65536 + 131072 + 16777216 * dev.toNat) :
    v.getLsbD 16 = true ∧ v.getLsbD 17 = true ∧ v.extractLsb' 24 4 = dev := by
  have hdev := dev.isLt
  refine ⟨?csOk, ?bcMatch, BitVec.eq_of_toNat_eq ?device⟩
  case csOk | bcMatch =>
    rw [BitVec.getLsbD, Nat.testBit_eq_decide_div_mod_eq, decide_eq_true_eq, hv]
    omega
  case device =>
    rw [BitVec.extractLsb'_toNat, Nat.shiftRight_eq_div_pow, hv]
    omega

section Message

variable (p : Params) (dev : BitVec 4) (a3 : Word) {raw : List Byte} (hmax : raw.length ≤ 14335)

include hmax

theorem bulkMessage_eq_dumpMessage : bulkMessage p dev a3 raw = dumpMessage p dev
    (BitVec.ofNat 8 (packedLen raw.length / 128)) (BitVec.ofNat 8 (packedLen raw.length % 128)) ((addr3High a3).setWidth 8)
    ((addr3Mid a3).setWidth 8) ((addr3Low a3).setWidth 8) (packFn raw)
    (BitVec.ofNat 8 (checksumFn (bulkBody a3 (packFn raw)))) := by
  rw [bulkMessage_eq, dumpMessage, List.append_assoc [_, _, _, _] [_, _, _, _, _], ← bulkBody_packFn_eq a3 hmax]

theorem classifyFn_bulkMessage : (classifyFn p (bulkMessage p dev a3 raw)).kind = .bulkDump := by
  rw [bulkMessage_eq_dumpMessage p dev a3 hmax]
  exact (classifyFn_dumpMessage ..).1

theorem firstNoncleanField_bulkMessage : firstNoncleanField (bulkMessage p dev a3 raw) = none := by
  rw [← Option.not_isSome_iff_eq_none, bulkMessage_eq_dumpMessage p dev a3 hmax, firstNoncleanField_dumpMessage_isSome,
    ← bulkBody_packFn_eq a3 hmax, fields_bulkMessage_clean a3 raw]
  decide

theorem slice_bulkMessage_payload :
    slice (bulkMessage p dev a3 raw) 9 (8 + ((bulkMessage p dev a3 raw).length - 11)) = packFn raw := by
  rw [bulkMessage_eq_dumpMessage p dev a3 hmax, length_dumpMessage, Nat.add_sub_cancel]
  exact slice_dumpMessage_payload ..

/-- What DECODE_BULK with CS_SPAN = 0 leaves of it: the length, the packed length, the address triple and a report, and no
warning. -/
theorem decoded_bulkMessage {s : State} (hspan : s.csSpan = 0#2) (hclean : addr3Clean a3 = true) :
    s.decoded (bulkMessage s.params dev a3 raw) = { s with
      mem := (s.decoded (bulkMessage s.params dev a3 raw)).mem, r0 := BitVec.ofNat 32 raw.length,
      r1 := BitVec.ofNat 32 (packedLen raw.length), r2 := a3,
      r3 := BitVec.ofNat 32 (checksumFn (bulkBody a3 (packFn raw)) + 256 * checksumFn (bulkBody a3 (packFn raw)) + 65536
        + 131072 + 16777216 * dev.toNat) } := by
  have hm := bulkMessage_eq_dumpMessage s.params dev a3 hmax
  have hspan : decodeSpan s.csSpan (bulkMessage s.params dev a3 raw) = bulkBody a3 (packFn raw) := by
    rw [hm, decodeSpan_dumpMessage, if_pos hspan, bulkBody_packFn_eq a3 hmax]
  have hlt := packedLen_lt hmax
  have hcs : (BitVec.ofNat 8 (checksumFn (bulkBody a3 (packFn raw)))).toNat = checksumFn (bulkBody a3 (packFn raw)) :=
    Nat.mod_eq_of_lt ((checksumFn_lt _).trans (by decide))
  have hcount : 128 * ((BitVec.ofNat 8 (packedLen raw.length / 128)).toNat % 128)
      + (BitVec.ofNat 8 (packedLen raw.length % 128)).toNat % 128 = packedLen raw.length := by
    rw [BitVec.toNat_ofNat, BitVec.toNat_ofNat]
    omega
  have haddr : ∀ x : BitVec 7, (x.setWidth 8).toNat % 128 = x.toNat := fun x => by
    rw [BitVec.toNat_setWidth_of_le (by decide), Nat.mod_eq_of_lt x.isLt]
  rw [State.decoded_of_dumpMessage hm hspan, hcs, hcount, haddr, haddr, haddr, ← addr3_toNat_of_clean hclean,
    ← bulkBody_packFn_eq a3 hmax, fields_bulkMessage_clean a3 raw, if_pos (byteSum_add_checksumFn _),
    if_pos (byteSum_add_checksumFn _), length_packFn, unpackedLen_packedLen]
  simp only [if_true, Bool.false_eq_true, if_false, BitVec.or_zero, BitVec.ofNat_toNat, BitVec.setWidth_eq]

theorem decoded_bulkMessage_report {s : State} (hspan : s.csSpan = 0#2) (hclean : addr3Clean a3 = true) :
    (s.decoded (bulkMessage s.params dev a3 raw)).r3.getLsbD 16 = true ∧
      (s.decoded (bulkMessage s.params dev a3 raw)).r3.getLsbD 17 = true ∧
      (s.decoded (bulkMessage s.params dev a3 raw)).r3.extractLsb' 24 4 = dev := by
  have hchecksum := checksumFn_lt (bulkBody a3 (packFn raw))
  have hdev := dev.isLt
  refine report_fields (n := checksumFn (bulkBody a3 (packFn raw)) + 256 * checksumFn (bulkBody a3 (packFn raw)))
    (by omega) ?_
  rw [decoded_bulkMessage dev a3 hmax hspan hclean, BitVec.toNat_ofNat, Nat.mod_eq_of_lt (by omega)]

end Message

/-! ### The codec law (42_sysex R147) -/

/-- A range that is read twice holds the same bytes. -/
theorem HasBytes.unique {s : State} {a : Nat} {xs ys : List Byte} (hx : HasBytes s a xs) (hy : HasBytes s a ys)
    (hlen : xs.length = ys.length) : xs = ys :=
  Except.ok.inj ((loadBytes_eq_ok.2 ⟨hlen, hx⟩).symm.trans (loadBytes_eq_ok.2 ⟨rfl, hy⟩))

theorem StoredAt.hasBytes {s t : State} {a : Nat} {bs : List Byte} (h : StoredAt s t a bs) : HasBytes t a bs := by
  intro i hi
  rw [h, if_pos (by omega), Nat.add_sub_cancel_left]

/-- An ENCODE_BULK that has not faulted has stored the message of its source. -/
theorem encodeBulk_stored {s t : State} {dev : BitVec 4} {raw : List Byte} (hexec : exec (.encodeBulk dev) s = .next t)
    (hok : t.flag .err = false) (hlen : raw.length = s.a1.toNat) (hbytes : HasBytes s s.a0.toNat raw) :
    addr3Clean s.a3 = true ∧ raw.length ≤ 14335 ∧ t.params = s.params ∧
      t.r0 = BitVec.ofNat 32 (bulkMessage s.params dev s.a3 raw).length ∧
      HasBytes t s.a2.toNat (bulkMessage s.params dev s.a3 raw) := by
  rw [exec_eq_commit, commit_eq_next] at hexec
  rcases hexec with hbody | ⟨c, n, -, rfl⟩
  · obtain ⟨hclean, hmax, raw', hlen', hbytes', -, -, hfit, -, rfl⟩ := encodeBulkBody_eq_ok.1 hbody
    obtain rfl := hbytes.unique hbytes' (hlen.trans hlen'.symm)
    exact ⟨hclean, hlen ▸ hmax, by simp, by simp,
      StoredAt.hasBytes (s := s) (storedAt_of_fits (by simp) (by simp) hfit)⟩
  · simp at hok

/-- Settles O48: DECODE_BULK finds the message that ENCODE_BULK has stored, and reads it as `decoded_bulkMessage` says. -/
theorem decodeBulkInvertsEncodeBulk : Obligations.DecodeBulkInvertsEncodeBulk := by
  intro s t dev raw dst cap ctrl _ hexec hok hlen hbytes hspan hcap hfit hapart u
  obtain ⟨hclean, hmax, hparams, hr0, hmessage⟩ := encodeBulk_stored hexec hok hlen hbytes
  rw [← hparams] at hr0 hmessage
  have hlt := packedLen_lt hmax
  have hmlen := length_bulkMessage t.params dev s.a3 raw
  have hsourceLen : (bulkMessage t.params dev s.a3 raw).length = t.r0.toNat := by
    rw [hr0, BitVec.toNat_ofNat, Nat.mod_eq_of_lt (by omega)]
  have hrawLen : unpackedLen ((bulkMessage t.params dev s.a3 raw).length - 11) = raw.length := by
    rw [hmlen, Nat.add_sub_cancel, unpackedLen_packedLen]
  have hcsSpan : u.csSpan = 0#2 := hspan
  have hdst : Fits u u.a2.toNat raw.length := hfit.imp_right fun hend => hend.trans_eq (congrArg Params.memBytes hparams.symm)
  have hbody := decodeBulkBody_of_accepted (s := u) (by rw [hcsSpan]; decide) hsourceLen hmessage
    (classifyFn_bulkMessage t.params dev s.a3 hmax) (.inl (firstNoncleanField_bulkMessage t.params dev s.a3 hmax))
  rw [hrawLen, hsourceLen] at hbody
  have hframe := decoded_bulkMessage dev s.a3 hmax hcsSpan hclean
  obtain ⟨hcsOk, hbcMatch, hdev⟩ := decoded_bulkMessage_report dev s.a3 hmax hcsSpan hclean
  refine ⟨_, exec_of_destination (i := .decodeBulk) hbody hcap hdst hapart, ?frame, hcsOk, hbcMatch, hdev, ?stored⟩
  case frame =>
    have ha1 : BitVec.ofNat 32 raw.length = s.a1 := by rw [hlen, BitVec.ofNat_toNat, BitVec.setWidth_eq]
    have hr3 := congrArg State.r3 hframe
    dsimp only at hr3
    rw [← hr3, ha1] at hframe
    exact hframe
  case stored =>
    refine storedAt_of_fits ?_ (State.decoded_params ..) hdst
    rw [State.decoded_mem, slice_bulkMessage_payload _ _ _ hmax, unpackFn_packFn]

end Sys2Proof.Machine
end

section
/-! Proofs for 43_pattern: what FDT validation accepts, and which index it answers where it does not (R173). -/

namespace Sys2Proof.Machine

/-! ### The first entry of a bank that meets a test -/

section FirstIndex

variable {bank : FdtBank} {p : FdtEntry → Bool}

theorem findIdx?_bank_eq_none_iff : bank.toList.findIdx? p = none ↔ ∀ i : Fin 32, ¬p bank[i] = true := by
  simp only [List.findIdx?_eq_none_iff, Vector.mem_toList_iff, Vector.forall_mem_iff_forall_getElem, Bool.not_eq_true]
  exact ⟨fun h i => h i i.isLt, fun h i hi => h ⟨i, hi⟩⟩

theorem findIdx?_bank_of_first {i : Fin 32} (hi : p bank[i] = true) (hbefore : ∀ k, k < i → ¬p bank[k] = true) :
    bank.toList.findIdx? p = some i.val := by
  refine List.findIdx?_eq_some_iff_getElem.2 ⟨by simp, by simpa using hi, fun j hj => ?_⟩
  simpa using hbefore ⟨j, hj.trans i.isLt⟩ hj

end FirstIndex

/-! ### The rules of one entry (43_pattern R173, V1 to V6) -/

/-- Offset `x` is one of the bytes that the entry covers (10_state R38). -/
def FdtEntry.Covers (e : FdtEntry) (x : Nat) : Prop := e.start ≤ x ∧ x < e.start + e.size

/-- V1 to V5 for a buffer of `size` bytes. -/
def FdtEntry.MeetsFieldRules (e : FdtEntry) (size : Nat) : Prop :=
  (1 ≤ e.elemLen ∧ 1 ≤ e.count) ∧ (e.cls ≠ .reserved ∧ e.typ ≠ .reserved) ∧
    ((e.typ = .u8 → e.elemLen = 1) ∧ (e.typ = .u16be → e.elemLen = 2)) ∧
    e.start + e.size ≤ size ∧ ((e.cls = .safe ∨ e.cls = .provisional) → 16 ≤ e.start)

/-- An entry of the bank is VALID, of class PRESERVE, and covers a byte that `e` covers too. -/
def MeetsPreserve (bank : FdtBank) (e : FdtEntry) : Prop :=
  ∃ (k : Fin 32) (x : Nat), bank[k].valid = true ∧ bank[k].cls = .preserve ∧ e.Covers x ∧ bank[k].Covers x

theorem writable_iff {e : FdtEntry} : e.writable = true ↔ e.cls = .safe ∨ e.cls = .provisional := by
  simp [FdtEntry.writable]

theorem entryLegal_iff {e : FdtEntry} {size : Nat} : entryLegal size e = true ↔ e.MeetsFieldRules size := by
  simp only [entryLegal, FdtEntry.MeetsFieldRules, Bool.and_eq_true, Bool.or_eq_true, decide_eq_true_eq, bne_iff_ne,
    beq_iff_eq, Bool.not_eq_true', ← Bool.not_eq_true, writable_iff, ← imp_iff_not_or, and_assoc, ge_iff_le]

theorem entriesMeet_iff {e f : FdtEntry} : entriesMeet e f = true ↔ ∃ x, e.Covers x ∧ f.Covers x := by
  simp only [entriesMeet, overlaps, Bool.and_eq_true, decide_eq_true_eq, FdtEntry.Covers]
  constructor
  · rintro ⟨⟨⟨he, hf⟩, hef⟩, hfe⟩
    exact ⟨max e.start f.start, by omega, by omega⟩
  · rintro ⟨x, ⟨he, he'⟩, hf, hf'⟩
    omega

theorem touchesPreserve_iff {bank : FdtBank} {e : FdtEntry} :
    touchesPreserve bank.toList e = true ↔ MeetsPreserve bank e := by
  simp only [touchesPreserve, Vector.any_toList, Vector.any_eq_true, Bool.and_eq_true, beq_iff_eq, entriesMeet_iff]
  constructor
  · rintro ⟨k, hk, ⟨hvalid, hcls⟩, x, he, hf⟩
    exact ⟨⟨k, hk⟩, x, hvalid, hcls, he, hf⟩
  · rintro ⟨k, x, hvalid, hcls, he, hf⟩
    exact ⟨k, k.isLt, ⟨hvalid, hcls⟩, x, he, hf⟩

/-! ### The sum of the lengths (43_pattern R173, V7) -/

theorem regionSum_bank (bank : FdtBank) :
    regionSum bank.toList = ∑ i : Fin 32, if bank[i].valid then bank[i].size else 0 := by
  have hlist : bank.toList = List.ofFn fun i : Fin 32 => bank[i] := by
    rw [← Vector.toList_ofFn]
    exact congrArg Vector.toList Vector.ofFn_getElem.symm
  have hsum := List.sum_map_ite (fun e : FdtEntry => e.valid = true) FdtEntry.size (fun _ => 0) bank.toList
  simp only [Bool.decide_eq_true, List.map_const', List.sum_replicate, smul_zero, add_zero] at hsum
  rw [regionSum, ← hsum, hlist, List.map_ofFn, List.sum_ofFn]
  rfl

/-! ### ValidateFDT (43_pattern R173) -/

/-- The entry is VALID and fails one of V1 to V5. -/
def breaksFieldRules (size : Nat) (e : FdtEntry) : Bool := e.valid && !entryLegal size e

/-- The entry is VALID and writable and fails V6. -/
def breaksPreserve (bank : FdtBank) (e : FdtEntry) : Bool := e.valid && e.writable && touchesPreserve bank.toList e

theorem breaksFieldRules_iff {size : Nat} {e : FdtEntry} :
    breaksFieldRules size e = true ↔ e.valid = true ∧ ¬e.MeetsFieldRules size := by
  rw [breaksFieldRules, Bool.and_eq_true, Bool.not_eq_true', ← Bool.not_eq_true, entryLegal_iff]

theorem breaksPreserve_iff {bank : FdtBank} {e : FdtEntry} : breaksPreserve bank e = true ↔
    e.valid = true ∧ (e.cls = .safe ∨ e.cls = .provisional) ∧ MeetsPreserve bank e := by
  rw [breaksPreserve, Bool.and_eq_true, Bool.and_eq_true, writable_iff, touchesPreserve_iff, and_assoc]

/-- V1 to V5 come first, then V6, then V7. -/
theorem validateFdt_eq_or (bank : FdtBank) (size : Nat) : validateFdt bank size =
    (bank.toList.findIdx? (breaksFieldRules size)).or ((bank.toList.findIdx? (breaksPreserve bank)).or
      (if regionSum bank.toList ≤ size then none else some 32)) := by
  unfold validateFdt breaksFieldRules breaksPreserve
  dsimp only
  cases bank.toList.findIdx? fun e => e.valid && !entryLegal size e with
  | some i => rfl
  | none => cases bank.toList.findIdx? fun e => e.valid && e.writable && touchesPreserve bank.toList e <;> rfl

theorem validateFdt_eq_none_iff {bank : FdtBank} {size : Nat} : validateFdt bank size = none ↔
    (∀ i : Fin 32, ¬breaksFieldRules size bank[i] = true) ∧ (∀ i : Fin 32, ¬breaksPreserve bank bank[i] = true) ∧
      regionSum bank.toList ≤ size := by
  simp only [validateFdt_eq_or, Option.or_eq_none_iff, findIdx?_bank_eq_none_iff, ite_eq_left_iff, reduceCtorEq, imp_false,
    not_not]

/-- Settles O49. -/
theorem fdtValidation : Obligations.FdtValidation := by
  intro bank size legal covers fails clashes total
  have hfails : ∀ i : Fin 32, breaksFieldRules size bank[i] = true ↔ fails i := fun i => breaksFieldRules_iff
  have hclashes : ∀ i : Fin 32, breaksPreserve bank bank[i] = true ↔ clashes i := fun i => breaksPreserve_iff
  have htotal : regionSum bank.toList = total := regionSum_bank bank
  simp only [← hfails, ← hclashes, ← htotal]
  refine ⟨validateFdt_eq_none_iff, fun i hi hbefore => ?fieldRules, fun i hlegal hi hbefore => ?preserve,
    fun hlegal hapart hsum => ?sum⟩
  case fieldRules => rw [validateFdt_eq_or, findIdx?_bank_of_first hi hbefore, Option.some_or]
  case preserve =>
    rw [validateFdt_eq_or, findIdx?_bank_eq_none_iff.2 hlegal, findIdx?_bank_of_first hi hbefore, Option.none_or,
      Option.some_or]
  case sum =>
    rw [validateFdt_eq_or, findIdx?_bank_eq_none_iff.2 hlegal, findIdx?_bank_eq_none_iff.2 hapart, Option.none_or,
      Option.none_or, if_neg (Nat.not_le.2 hsum)]

end Sys2Proof.Machine
end

section
/-! Proofs for 43_pattern: PAT_OPEN (R171, R172, R176). -/

namespace Sys2Proof.Machine

/-! ### The two sizes (43_pattern R171) -/

theorem sizeVariant_of_size {p : Params} (hlt : p.sizeSmall < p.sizeLarge) {n : Nat} {b : Bool}
    (hn : n = if b then p.sizeLarge else p.sizeSmall) : sizeVariant p n = some b := by
  subst hn
  cases b with
  | false => exact if_pos rfl
  | true => exact (if_neg hlt.ne').trans (if_pos rfl)

theorem sizeVariant_of_other {p : Params} {n : Nat} (hsmall : n ≠ p.sizeSmall) (hlarge : n ≠ p.sizeLarge) :
    sizeVariant p n = none :=
  (if_neg hsmall).trans (if_neg hlarge)

/-! ### The magic (43_pattern R172) -/

theorem length_magicBytes (p : Params) : (magicBytes p).length = 16 := by simp [magicBytes]

theorem hasBytes_magicBytes {s : State} {a : Nat}
    (h : ∀ i : Fin 16, s.peek (a + i.val) = some (s.params.magic[i].setWidth 8)) :
    HasBytes s a (magicBytes s.params) := by
  intro i hi
  rw [length_magicBytes] at hi
  rw [h ⟨i, hi⟩]
  simp [magicBytes, hi]

/-! ### STATUS once a pattern is open (43_pattern R176) -/

theorem and_not_or_self (w m : Word) : (w &&& ~~~m) ||| m = w ||| m := by
  refine BitVec.eq_of_getLsbD_eq fun i hi => ?_
  simp only [BitVec.getLsbD_or, BitVec.getLsbD_and, BitVec.getLsbD_not, hi, decide_true, Bool.true_and]
  cases m.getLsbD i <;> simp

theorem putBit_patVariant_patOpen (w : Word) (b : Bool) : putBit (putBit w 17 b) 16 true =
    (w &&& ~~~0x00020000#32) ||| 0x00010000#32 ||| (if b then 0x00020000#32 else 0#32) := by
  cases b with
  | false => exact BitVec.or_zero.symm
  | true =>
    calc (w ||| 0x00020000#32) ||| 0x00010000#32
      _ = ((w &&& ~~~0x00020000#32) ||| 0x00020000#32) ||| 0x00010000#32 := by rw [and_not_or_self]
      _ = ((w &&& ~~~0x00020000#32) ||| 0x00010000#32) ||| 0x00020000#32 := by
        rw [BitVec.or_assoc, BitVec.or_comm 0x00020000#32, ← BitVec.or_assoc]

/-! ### The body step by step (43_pattern R176) -/

/-- What PAT_OPEN leaves once every check has passed, on a buffer of variant `b`. -/
def State.opened (s : State) (b : Bool) : State :=
  ((({ s with patBase := s.a0, patSize := s.a1 }.setFlag .patVariant b).setFlag .patOpen true).clearStage).setR0 b.toNat

theorem opened_eq (s : State) (b : Bool) : s.opened b = { s with
    patBase := s.a0, patSize := s.a1, mask := [], r0 := if b then 1#32 else 0#32,
    status := (s.status &&& ~~~0x00020000#32) ||| 0x00010000#32 ||| (if b then 0x00020000#32 else 0#32) } := by
  rw [← putBit_patVariant_patOpen]
  cases b <;> rfl

section Body

variable {s : State} {b : Bool} {header : List Byte} (hsize : sizeVariant s.params s.a1.toNat = some b)

include hsize

theorem patOpenBody_of_not_fits (hfit : ¬Fits s s.a0.toNat s.a1.toNat) :
    patOpenBody s = .error (.raise .bounds s.a0.toNat) := by
  rw [patOpenBody, hsize]
  exact checkSrc_bind_of_not_fits hfit _

/-- With its length and range in order PAT_OPEN goes on to the magic and to the FDT. -/
theorem patOpenBody_of_header (hfit : Fits s s.a0.toNat s.a1.toNat) (hlen : header.length = 16)
    (hbytes : HasBytes s s.a0.toNat header) :
    patOpenBody s = (raiseIf (header != magicBytes s.params) .invalidFileHeader s.a0.toNat >>= fun _ =>
      requireValid (validateFdt (s.bank b) s.a1.toNat) >>= fun _ => .ok (s.opened b)) := by
  have hsource : checkSrc s s.a0.toNat s.a1.toNat = .ok () := checkSrc_eq_ok.2 hfit
  rw [patOpenBody, hsize]
  dsimp only
  rw [patOpenAs, hsource, loadBytes_eq_ok.2 ⟨hlen, hbytes⟩]
  rfl

end Body

/-! ### Obligations on PAT_OPEN -/

/-- Settles O50. -/
theorem patOpenCompletes : Obligations.PatOpenCompletes := by
  intro s b hlt hlen hfit hmagic hvalid
  have hbody := patOpenBody_eq_ok.2
    ⟨b, sizeVariant_of_size hlt hlen, hfit, length_magicBytes s.params, hasBytes_magicBytes hmagic, hvalid, rfl⟩
  exact ⟨s.opened b, exec_of_body_ok (i := .patOpen) hbody, opened_eq s b, sameMemory_of_eq rfl rfl⟩

/-- Settles O51: the length is checked first, then the range; past them the body is `patOpenBody_of_header`. -/
theorem patOpenFaults : Obligations.PatOpenFaults := by
  intro s
  refine ⟨fun hsmall hlarge => ?size, fun b hlt hlen => ⟨fun hfit => ?range, fun hfit h hh hbytes =>
    ⟨fun hne => ?magic, fun heq v hv => ?table⟩⟩⟩
  case size =>
    refine exec_of_body_raise (i := .patOpen) ?_
    rw [bodyOf, patOpenBody, sizeVariant_of_other hsmall hlarge]
    rfl
  all_goals have hsize := sizeVariant_of_size hlt hlen
  case range => exact exec_of_body_raise (i := .patOpen) (patOpenBody_of_not_fits hsize hfit)
  all_goals have hbody := patOpenBody_of_header hsize hfit hh hbytes
  case magic =>
    exact exec_of_body_raise (i := .patOpen) (hbody.trans (raiseIf_bind_of_true (bne_iff_ne.2 hne) _ _ _))
  case table =>
    have hpass : (h != magicBytes s.params) = false := bne_eq_false_iff_eq.2 heq
    exact exec_of_body_raise (i := .patOpen) (hbody.trans (raiseIf_bind_eq_error hpass
      (cmd_bind_eq_error.2 (.inl (requireValid_eq_error.2 ⟨v, hv, rfl⟩)))))

end Sys2Proof.Machine
end

section
/-! Proofs for 43_pattern: the field commands PAT_GET, PAT_SECTION_ENABLED and PAT_WRITE_SAFE (R174 to R182). -/

namespace Sys2Proof.Machine

/-! ### The open pattern and the element of a field (43_pattern R174) -/

/-- ERR_INFO of BAD_FIELD holds the reason above the FID (60_exceptions R211). -/
theorem badFieldInfo_eq (fid : BitVec 5) (reason : Nat) : badFieldInfo fid reason = fid.toNat + 256 * reason :=
  or_shiftLeft_eq_add (k := 8) (fid.isLt.trans (by decide)) reason

/-- The offset in the buffer of the element that A3 selects. -/
def State.elemOffset (s : State) (fid : BitVec 5) : Nat := (s.entry fid).start + s.a3.toNat * (s.entry fid).elemLen

section Selection

variable {α : Type} {s : State} {fid : BitVec 5}

theorem requireOpen_bind_of_closed (h : s.flag .patOpen = false) (rest : Unit → Cmd α) :
    (requireOpen s >>= rest) = .error (.raise .notReady 0) :=
  cmd_bind_eq_error.2 (.inl (requireOpen_eq_error.2 ⟨h, rfl⟩))

theorem requireOpen_bind_of_open (h : s.flag .patOpen = true) (rest : Unit → Cmd α) :
    (requireOpen s >>= rest) = rest () := by
  have hopen : requireOpen s = .ok () := requireOpen_eq_ok.2 h
  rw [hopen]
  rfl

theorem elemSel_of_invalid (h : (s.entry fid).valid = false) :
    elemSel s fid s.a3.toNat = .error (.raise .badField fid.toNat) :=
  elemSel_eq_error.2 (.inl ⟨h, by rw [badFieldInfo_eq]; rfl⟩)

theorem elemSel_of_index (hvalid : (s.entry fid).valid = true) (h : (s.entry fid).count ≤ s.a3.toNat) :
    elemSel s fid s.a3.toNat = .error (.raise .badField (fid.toNat + 256)) :=
  elemSel_eq_error.2 (.inr ⟨hvalid, h, by rw [badFieldInfo_eq]⟩)

theorem selection_of_error (hopen : s.flag .patOpen = true) {e : Stop} (h : elemSel s fid s.a3.toNat = .error e)
    (rest : FdtEntry × Nat → Cmd α) : (requireOpen s >>= fun _ => elemSel s fid s.a3.toNat >>= rest) = .error e := by
  rw [requireOpen_bind_of_open hopen]
  exact cmd_bind_eq_error.2 (.inl h)

theorem selection_of_element (hopen : s.flag .patOpen = true) (hvalid : (s.entry fid).valid = true)
    (hidx : s.a3.toNat < (s.entry fid).count) (rest : FdtEntry × Nat → Cmd α) :
    (requireOpen s >>= fun _ => elemSel s fid s.a3.toNat >>= rest) = rest (s.entry fid, s.elemOffset fid) := by
  rw [requireOpen_bind_of_open hopen, elemSel_eq_ok.2 ⟨hvalid, hidx, rfl⟩]
  rfl

end Selection

/-! ### PAT_GET (43_pattern R177) -/

theorem patGetBody_of_bytes {s : State} {fid : BitVec 5} (hopen : s.flag .patOpen = true)
    (hvalid : (s.entry fid).valid = true) (hidx : s.a3.toNat < (s.entry fid).count)
    (htyp : (s.entry fid).typ = .bytes) : patGetBody fid s =
      getBytes s (s.patBase.toNat + s.elemOffset fid) (s.entry fid).elemLen (s.elemOffset fid) := by
  rw [patGetBody, selection_of_element hopen hvalid hidx]
  dsimp only
  rw [htyp]

/-- Settles O52. -/
theorem patGetCompletes : Obligations.PatGetCompletes := by
  intro s fid e off p hopen hvalid hidx
  refine ⟨fun v htyp hv => ?u8, fun b0 b1 htyp h0 h1 => ?u16be, fun v htyp hlen hbytes hcap hfit hapart => ?bytes⟩
  case u8 =>
    have hget : getU8 s p off = .ok ((s.setR0 v.toNat).setR1 off) := cmd_bind_eq_ok.2 ⟨v, loadByte_eq_ok.2 hv, rfl⟩
    have hbody := patGetBody_eq_ok.2 ⟨hopen, hvalid, hidx, by rw [show (s.entry fid).typ = .u8 from htyp]; exact hget⟩
    exact ⟨_, exec_of_body_ok (i := .patGet fid) hbody, rfl, sameMemory_of_eq rfl rfl⟩
  case u16be =>
    have hget : getU16 s p off = .ok ((s.setR0 (u16be b0 b1)).setR1 off) :=
      cmd_bind_eq_ok.2 ⟨_, loadU16_eq_ok.2 ⟨b0, b1, h0, h1, rfl⟩, rfl⟩
    have hbody := patGetBody_eq_ok.2 ⟨hopen, hvalid, hidx, by rw [show (s.entry fid).typ = .u16be from htyp]; exact hget⟩
    exact ⟨_, exec_of_body_ok (i := .patGet fid) hbody, rfl, sameMemory_of_eq rfl rfl⟩
  case bytes =>
    have hget : getBytes s p e.elemLen off = .ok (((s.storeBytes s.a2.toNat v).setR0 e.elemLen).setR1 off) :=
      getBytes_eq_ok.2 ⟨hcap, hfit, hapart, v, hlen, hbytes, rfl⟩
    exact ⟨_, exec_of_body_ok (i := .patGet fid) ((patGetBody_of_bytes hopen hvalid hidx htyp).trans hget), rfl,
      storedAt_of_fits rfl rfl (hlen.symm ▸ hfit)⟩

/-! ### PAT_SECTION_ENABLED (43_pattern R179, R180) -/

/-- The pointer is the sentinel exactly where both of its bytes are FE. -/
theorem u16be_eq_sentinel_iff {hi lo : Byte} : u16be hi lo = 0xFEFE ↔ hi = 0xFE#8 ∧ lo = 0xFE#8 := by
  have := lo.isLt
  rw [u16be, BitVec.toNat_eq, BitVec.toNat_eq, BitVec.toNat_ofNat]
  omega

theorem ofNat_sectionEnabled (hi lo : Byte) : BitVec.ofNat 32 (sectionEnabled (u16be hi lo)).toNat =
    if hi = 0xFE#8 ∧ lo = 0xFE#8 then 0#32 else 1#32 := by
  split
  next h =>
    rw [u16be_eq_sentinel_iff.2 h]
    rfl
  next h =>
    rw [sectionEnabled, bne_iff_ne.2 (mt u16be_eq_sentinel_iff.1 h)]
    rfl

/-- Settles O53. -/
theorem patSectionEnabledCompletes : Obligations.PatSectionEnabledCompletes := by
  intro s fid b0 b1 e p hopen hvalid htyp hidx h0 h1
  have hbody := patSectionEnabledBody_eq_ok.2
    ⟨hopen, hvalid, htyp, hidx, _, loadU16_eq_ok.2 ⟨b0, b1, h0, h1, rfl⟩, rfl⟩
  refine ⟨_, exec_of_body_ok (i := .patSectionEnabled fid) hbody, ?frame, sameMemory_of_eq rfl rfl⟩
  case frame =>
    rw [State.setR0, ofNat_sectionEnabled]
    rfl

/-! ### PAT_WRITE_SAFE (43_pattern R181, R182) -/

/-- A class that PAT_WRITE_SAFE may write passes both of its class checks. -/
theorem classChecks_pass {e : FdtEntry} {provEn : Bool} (h : e.cls = .safe ∨ (e.cls = .provisional ∧ provEn = true)) :
    e.cls ≠ .preserve ∧ (e.cls = .provisional → provEn = true) := by
  rcases h with hsafe | ⟨hprov, hen⟩
  · simp [hsafe]
  · exact ⟨by simp [hprov], fun _ => hen⟩

/-- Settles O54: what is staged is `masked_stage` and `ovlByte_stage`. -/
theorem patWriteSafeCompletes : Obligations.PatWriteSafeCompletes := by
  intro s fid v e off hopen hvalid hidx hcls hlen hbytes
  obtain ⟨hne, hprov⟩ := classChecks_pass hcls
  have hbody := patWriteSafeBody_eq_ok.2
    ⟨hopen, hvalid, hidx, hne, hprov, hlen ▸ fits_of_hasBytes hbytes, v, hlen, hbytes, rfl⟩
  refine ⟨_, exec_of_body_ok (i := .patWriteSafe fid) hbody, rfl, sameMemory_of_eq rfl rfl, fun i => ?masked,
    fun j x hj => ?staged, fun i hi => ?kept⟩
  case masked =>
    rw [← hlen]
    exact s.masked_stage off i v
  case staged =>
    obtain ⟨hlt, rfl⟩ := List.getElem?_eq_some_iff.1 hj
    refine (s.ovlByte_stage off (off + j) v).trans ?_
    simp [hlt]
  case kept =>
    rw [← hlen] at hi
    exact (s.ovlByte_stage off i v).trans (dif_neg hi)

/-! ### Where the field commands fault (43_pattern R174, R177, R179, R181 to R183) -/

section Faults

variable {s : State} {fid : BitVec 5} (hopen : s.flag .patOpen = true)

include hopen

theorem patSectionEnabledBody_of_type (hvalid : (s.entry fid).valid = true) (htyp : (s.entry fid).typ ≠ .u16be) :
    patSectionEnabledBody fid s = .error (.raise .badField (fid.toNat + 512)) := by
  rw [patSectionEnabledBody, requireOpen_bind_of_open hopen, badFieldInfo_eq]
  exact raiseIf_bind_of_true (by simp [hvalid, htyp]) _ _ _

/-- A field whose element cannot be selected stops every field command, PAT_SECTION_ENABLED only where it has no wrong type to
report first. -/
theorem exec_of_elemSel_error {c : FaultCode} {n : Nat} (h : elemSel s fid s.a3.toNat = .error (.raise c n)) :
    exec (.patGet fid) s = .next (s.raiseFault c n) ∧
      (((s.entry fid).valid = true → (s.entry fid).typ = .u16be) →
        exec (.patSectionEnabled fid) s = .next (s.raiseFault c n)) ∧
      exec (.patWriteSafe fid) s = .next (s.raiseFault c n) := by
  refine ⟨exec_of_body_raise (i := .patGet fid) (selection_of_error hopen h _), fun htyp => ?_,
    exec_of_body_raise (i := .patWriteSafe fid) (selection_of_error hopen h _)⟩
  refine exec_of_body_raise (i := .patSectionEnabled fid) ?_
  rw [bodyOf, patSectionEnabledBody, requireOpen_bind_of_open hopen]
  exact raiseIf_bind_eq_error (by simpa using htyp) (cmd_bind_eq_error.2 (.inl h))

/-- With its element selected PAT_WRITE_SAFE goes on to the class and to the value range. -/
theorem patWriteSafeBody_of_element (hvalid : (s.entry fid).valid = true) (hidx : s.a3.toNat < (s.entry fid).count) :
    ∃ rest, patWriteSafeBody fid s = (raiseIf ((s.entry fid).cls == .preserve) .unsafeFieldWrite 0 >>= fun _ =>
      raiseIf ((s.entry fid).cls == .provisional && !s.provEn) .unsafeFieldWrite 1 >>= fun _ =>
      checkSrc s s.a0.toNat (s.entry fid).elemLen >>= rest) := by
  rw [patWriteSafeBody, selection_of_element hopen hvalid hidx]
  exact ⟨_, rfl⟩

end Faults

/-- Settles O57. -/
theorem patternFieldFaults : Obligations.PatternFieldFaults := by
  intro s fid e
  refine ⟨fun hclosed => ?notReady, fun hopen => ⟨fun hinvalid => ?invalid, fun hvalid htyp => ?wrongType,
    fun hvalid hidx => ?index, fun hvalid hidx => ?element⟩⟩
  case notReady =>
    exact ⟨exec_of_body_raise (i := .patGet fid) (requireOpen_bind_of_closed hclosed _),
      exec_of_body_raise (i := .patSectionEnabled fid) (requireOpen_bind_of_closed hclosed _),
      exec_of_body_raise (i := .patWriteSafe fid) (requireOpen_bind_of_closed hclosed _),
      exec_of_body_raise (i := .patOverlay) (requireOpen_bind_of_closed hclosed _)⟩
  case invalid =>
    obtain ⟨hget, hsection, hwrite⟩ := exec_of_elemSel_error hopen (elemSel_of_invalid hinvalid)
    exact ⟨hget, hsection fun hvalid => absurd (hinvalid.symm.trans hvalid) Bool.false_ne_true, hwrite⟩
  case wrongType =>
    exact exec_of_body_raise (i := .patSectionEnabled fid) (patSectionEnabledBody_of_type hopen hvalid htyp)
  case index =>
    obtain ⟨hget, hsection, hwrite⟩ := exec_of_elemSel_error hopen (elemSel_of_index hvalid hidx)
    exact ⟨hget, fun htyp => hsection fun _ => htyp, hwrite⟩
  case element =>
    obtain ⟨rest, hbody⟩ := patWriteSafeBody_of_element hopen hvalid hidx
    refine ⟨fun hcls => ?preserve, fun hcls hen => ?provisional, fun hcls hfit => ?range⟩ <;>
      refine exec_of_body_raise (i := .patWriteSafe fid) (hbody.trans ?_)
    case preserve => exact raiseIf_bind_of_true (beq_iff_eq.2 hcls) _ _ _
    case provisional =>
      have hne : e.cls ≠ .preserve := by simp [hcls]
      have hdisabled : (e.cls == .provisional && !s.provEn) = true := by
        rw [hcls, show s.provEn = false from hen]
        rfl
      exact raiseIf_bind_eq_error (beq_eq_false_iff_ne.2 hne) (raiseIf_bind_of_true hdisabled _ _ _)
    case range =>
      obtain ⟨hne, hprov⟩ := classChecks_pass (provEn := s.provEn) hcls
      have henabled : (e.cls == .provisional && !s.provEn) = false := by simpa using hprov
      exact raiseIf_bind_eq_error (beq_eq_false_iff_ne.2 hne)
        (raiseIf_bind_eq_error henabled (checkSrc_bind_of_not_fits hfit _))

end Sys2Proof.Machine
end

section
/-! Proofs for 43_pattern: PAT_OVERLAY and the overlay law (R183, R184), where PAT_GET and PAT_OVERLAY fault on their destination
(R177, R183, R249), and what clears the staged bytes (R185, R186). -/

namespace Sys2Proof.Machine

/-! ### PAT_OVERLAY (43_pattern R183) -/

theorem maskCount_eq (s : State) (n : Nat) : maskCount s n = ((List.range n).filter s.masked).length :=
  List.countP_eq_length_filter

/-- Settles O55. -/
theorem patOverlayCompletes : Obligations.PatOverlayCompletes := by
  intro s out hopen hlen hout hcap hfit hplace
  have hread : overlayBytes s s.patSize.toNat 0 = .ok out :=
    overlayBytes_eq_ok.2 ⟨hlen, fun j hj => by rw [Nat.zero_add, hout j hj]⟩
  have hbody := patOverlayBody_eq_ok.2 ⟨hopen, hlen ▸ hcap, hlen ▸ hfit, hlen ▸ hplace, out, hread, rfl⟩
  refine ⟨_, exec_of_body_ok (i := .patOverlay) hbody, ?frame, storedAt_of_fits rfl rfl hfit⟩
  case frame =>
    rw [hlen, maskCount_eq, State.setR0, BitVec.ofNat_toNat, BitVec.setWidth_eq]
    rfl

/-- A PAT_OVERLAY that has not faulted has stored, from A2 on, its byte for each offset of the open buffer. -/
theorem overlay_stored {s t : State} (hexec : exec .patOverlay s = .next t) (hok : t.flag .err = false) :
    s.flag .patOpen = true ∧ t.r0 = s.patSize ∧ ∀ i, i < s.patSize.toNat →
      t.peek (s.a2.toNat + i) = if s.masked i then some (s.ovlByte i) else s.peek (s.patBase.toNat + i) := by
  rw [exec_eq_commit, commit_eq_next] at hexec
  rcases hexec with hbody | ⟨c, n, -, rfl⟩
  · obtain ⟨hopen, -, hfit, -, out, hread, rfl⟩ := patOverlayBody_eq_ok.1 hbody
    obtain ⟨hlen, hout⟩ := overlayBytes_eq_ok.1 hread
    refine ⟨hopen, by simp, fun i hi => ?_⟩
    rw [← hlen] at hi hfit
    have hstored : StoredAt s (((s.storeBytes s.a2.toNat out).setR0 s.patSize.toNat).setR1 (maskCount s s.patSize.toNat))
        s.a2.toNat out := storedAt_of_fits rfl rfl hfit
    have hbyte := hout i hi
    rw [Nat.zero_add] at hbyte
    exact (hstored.hasBytes i hi).trans hbyte.symm
  · simp at hok

/-! ### What a valid table keeps from being staged (43_pattern R173, V5 and V6) -/

/-- Offset `i` is a byte of the magic or of a VALID PRESERVE entry of the bank in use (43_pattern R172, R184). -/
def Preserved (s : State) (i : Nat) : Prop :=
  i < 16 ∨ ∃ k : Fin 32, ((s.bank s.variant)[k]).valid = true ∧ ((s.bank s.variant)[k]).cls = .preserve ∧
    ((s.bank s.variant)[k]).Covers i

theorem masked_eq_false_of_preserved {s : State} (hv : OpenPatternValid s) (hd : StageDisciplined s)
    (hopen : s.flag .patOpen = true) {i : Nat} (hi : Preserved s i) : s.masked i = false := by
  rw [← Bool.not_eq_true, State.masked_iff]
  intro hmask
  obtain ⟨-, -, hvalidated⟩ := hv hopen
  obtain ⟨-, -, hcovered⟩ := hd
  obtain ⟨k, hvalid, hwritable, hcovers⟩ := hcovered i hmask
  rw [writable_iff] at hwritable
  rcases hi with hmagic | ⟨j, hvalidj, hclsj, hcoversj⟩
  · obtain ⟨-, -, -, -, hstart⟩ := entryLegal_iff.1 (entryLegal_of_validateFdt hvalidated k hvalid)
    have := hstart hwritable
    omega
  · obtain ⟨-, hpreserve, -⟩ := validateFdt_eq_none_iff.1 hvalidated
    exact hpreserve k (breaksPreserve_iff.2 ⟨hvalid, hwritable, j, i, hvalidj, hclsj, hcovers, hcoversj⟩)

/-! ### The overlay law (43_pattern R184) -/

/-- What the law says of a PAT_OVERLAY that takes `s` to `t`. -/
def OverlayKeeps (s t : State) : Prop :=
  t.r0 = s.patSize ∧ ∀ i, i < s.patSize.toNat → (s.masked i = false ∨ Preserved s i) →
    s.masked i = false ∧ t.peek (s.a2.toNat + i) = s.peek (s.patBase.toNat + i)

theorem overlayKeeps_of_exec {s t : State} (hv : OpenPatternValid s) (hd : StageDisciplined s)
    (hexec : exec .patOverlay s = .next t) (hok : t.flag .err = false) : OverlayKeeps s t := by
  obtain ⟨hopen, hr0, hbytes⟩ := overlay_stored hexec hok
  refine ⟨hr0, fun i hi hkept => ?_⟩
  have hclear : s.masked i = false := hkept.elim id (masked_eq_false_of_preserved hv hd hopen)
  exact ⟨hclear, by rw [hbytes i hi, hclear, if_neg Bool.false_ne_true]⟩

/-- Dispatch and the end of a command change nothing that the law speaks of. -/
theorem OverlayKeeps.of_dispatch {s t : State} {w : Word} (h : OverlayKeeps (s.advance.beginCommand w) t) :
    OverlayKeeps s t.endCommand := by
  obtain ⟨hr0, hbytes⟩ := h
  refine ⟨hr0, fun i hi hkept => hbytes i hi (hkept.imp_right fun hpres => ?_)⟩
  unfold Preserved
  rwa [(beginCommand_samePattern s w).bank]

/-- Settles O56: the law holds of the command, and the start of a command keeps the open pattern and what is staged. -/
theorem overlayKeepsPreservedBytes : Obligations.OverlayKeepsPreservedBytes := by
  refine ⟨fun s t hv hd hexec hok => overlayKeeps_of_exec hv hd hexec hok, fun s t w hinv hw hdec hstep hok => ?_⟩
  obtain ⟨-, -, hreserved, -, hv, hd⟩ := hinv
  obtain ⟨-, hidle⟩ := reservedBitsClear_iff.1 hreserved
  rw [step_of_nextCommand hidle hw, runCommand, runWord_of_decode hdec] at hstep
  obtain ⟨u, hexec, rfl⟩ := onNext_eq_next.1 hstep
  have hsame := beginCommand_samePattern s w
  exact (overlayKeeps_of_exec (hv.of_samePattern hsame) (hd.of_samePattern hsame rfl) hexec (by simpa using hok)).of_dispatch

/-! ### Faults on the destination (43_pattern R177, R183, 70_reset R249) -/

/-- With a pattern open PAT_OVERLAY goes on to its destination and to an overlap that is not exactly in place. -/
theorem patOverlayBody_of_open {s : State} (hopen : s.flag .patOpen = true) :
    ∃ rest, patOverlayBody s = (checkDst s s.a2.toNat s.patSize.toNat s.a4.toNat >>= fun _ =>
      raiseIf (s.a2 != s.patBase && overlaps s.patBase.toNat s.patSize.toNat s.a2.toNat s.patSize.toNat) .overlap
        s.a2.toNat >>= rest) := by
  rw [patOverlayBody, requireOpen_bind_of_open hopen]
  exact ⟨_, rfl⟩

/-- Settles O58. -/
theorem patternDestinationFaults : Obligations.PatternDestinationFaults := by
  intro s hopen
  refine ⟨?patGet, ?patOverlay⟩
  case patGet =>
    intro fid e p hvalid htyp hidx
    have hbody : bodyOf (.patGet fid) s = getBytes s p e.elemLen (s.elemOffset fid) :=
      patGetBody_of_bytes hopen hvalid hidx htyp
    exact ⟨fun hcap => exec_of_body_raise (hbody.trans (checkDst_bind_of_capacity _ hcap)),
      fun hcap hfit => exec_of_body_raise (hbody.trans (checkDst_bind_of_not_fits _ hcap hfit)),
      fun hcap hfit hover => exec_of_body_raise (hbody.trans (checkDst_bind_of_overlap _ hcap hfit hover))⟩
  case patOverlay =>
    obtain ⟨rest, hbody⟩ := patOverlayBody_of_open hopen
    refine ⟨fun hcap => exec_of_body_raise (i := .patOverlay) (hbody.trans (checkDst_bind_of_capacity _ hcap)),
      fun hcap hfit => exec_of_body_raise (i := .patOverlay) (hbody.trans (checkDst_bind_of_not_fits _ hcap hfit)),
      fun hcap hfit hbase hover => exec_of_body_raise (i := .patOverlay) (hbody.trans ?_)⟩
    have hrefused : (s.a2 != s.patBase && overlaps s.patBase.toNat s.patSize.toNat s.a2.toNat s.patSize.toNat) = true := by
      rw [bne_iff_ne.2 hbase, overlaps_eq_true.2 hover]
      rfl
    exact cmd_bind_eq_error.2 (.inr ⟨(), checkDst_eq_ok.2 ⟨hcap, hfit⟩, raiseIf_bind_of_true hrefused _ _ _⟩)

/-! ### PAT_CLEAR_STAGE and PAT_CLOSE (43_pattern R185, R186) -/

/-- Settles O59: neither command checks anything, and STATUS.PAT_OPEN is bit 16. -/
theorem stageAndPatternClear : Obligations.StageAndPatternClear :=
  fun s => ⟨exec_eq_commit .patClearStage s, exec_eq_commit .patClose s⟩

end Sys2Proof.Machine
end

section
/-! Proofs for 44_control: NOP (R200), and SOFT_RESET beside the power-on values of the registers (R201, 70_reset R241). -/

namespace Sys2Proof.Machine

/-! ### NOP (44_control R200) -/

/-- STATUS through a command that completes and writes no STATUS of its own: dispatch clears ERR and sets BUSY, and the end
clears BUSY, which leaves it as an idle unit had it. -/
theorem status_of_quiet_command {v : Word} (hidle : v.getLsbD 0 = false) :
    putBit (putBit (putBit v 1 false) 0 true) 0 false = putBit v 1 false := by
  have hbusy : (putBit v 1 false).getLsbD 0 = false := by
    rw [getLsbD_putBit _ _ _ _ (by decide), if_neg (by decide), hidle]
  calc putBit (putBit (putBit v 1 false) 0 true) 0 false
      = putBit (putBit v 1 false) 0 ((putBit v 1 false).getLsbD 0) := by rw [putBit_putBit _ _ _ _ (by decide), hbusy]
    _ = putBit v 1 false := putBit_getLsbD _ _ (by decide)

/-- What the start and the end of a command do by themselves (30_encoding R95). -/
theorem endCommand_beginCommand {s : State} (hidle : s.flag .busy = false) (w : Word) :
    (s.beginCommand w).endCommand = { s with cmd := w, err := 0#32, status := putBit s.status 1 false } := by
  rw [← status_of_quiet_command hidle]
  rfl

/-- Settles O60: NOP commits the state it is given, so its step is the two ends of a command; STATUS.ERR is bit 1. -/
theorem nopOnlyClearsErr : Obligations.NopOnlyClearsErr := by
  refine ⟨exec_eq_commit .nop, fun s hw hidle => ?_⟩
  have hdec : decode 0#32 = .ok .nop := decode_encode .nop
  calc step s
      = .next (s.advance.beginCommand 0#32).endCommand := by
        rw [step_of_nextCommand hidle hw, runCommand, runWord_of_decode hdec, exec_eq_commit]
        rfl
    _ = .next { s.advance with cmd := 0#32, err := 0#32, status := putBit s.status 1 false } :=
        congrArg _ (endCommand_beginCommand (s := s.advance) hidle 0#32)

/-! ### SOFT_RESET and the power-on values (44_control R201, 70_reset R241) -/

/-- SOFT_RESET takes every register to its power-on value but CMD, the parameters, MEM and OVL; the host's side of the bus
(logs 4 and 5) is not its to change. -/
theorem softReset_eq_reset_with (s : State) : s.softReset = { State.reset with
    cmd := s.cmd, params := s.params, mem := s.mem, ovl := s.ovl, script := s.script, pc := s.pc, rdata := s.rdata } :=
  rfl

theorem bank_reset_getElem (b : Bool) (e : Fin 32) : (State.reset.bank b)[e] = ⟨0#32, 0#32⟩ := by
  simp [State.reset, State.bank_resetWith]

/-- Settles O27: the registers of the power-on state are its fields, and SOFT_RESET commits R201's values. -/
theorem resetValues : Obligations.ResetValues := by
  refine ⟨?control, ?argumentsAndResults, ?framerAndPattern, bank_reset_getElem, fun s => ?softReset⟩
  case control => exact ⟨rfl, rfl, rfl, rfl, rfl, rfl⟩
  case argumentsAndResults => exact ⟨rfl, rfl, rfl, rfl, rfl, rfl, rfl, rfl, rfl⟩
  case framerAndPattern => exact ⟨rfl, rfl, rfl, rfl, rfl⟩
  case softReset => exact (exec_eq_commit .softReset s).trans (congrArg _ (softReset_eq_reset_with s))

end Sys2Proof.Machine
end

section
/-! Proofs for 60_exceptions: fault entry (R212), what a command that completes leaves in the error registers (R217), and that a
command which faults does nothing else (R210, R228). -/

namespace Sys2Proof.Machine

/-! ### Fault entry (60_exceptions R212) -/

/-- STATUS.ERR is bit 1 and STATUS.ERR_STICKY bit 2 (10_state R22). -/
theorem raiseFault_eq (s : State) (c : FaultCode) (n : Nat) : s.raiseFault c n =
    { s with
      err := 0#16 ++ s.cmd.extractLsb' 0 8 ++ c.code, errInfo := BitVec.ofNat 32 n
      status := s.status ||| 0x00000006#32 } := by
  have hstatus : putBit (putBit s.status 1 true) 2 true = s.status ||| 0x00000006#32 := BitVec.or_assoc ..
  rw [← hstatus]
  rfl

theorem FaultCode.code_ne_zero (c : FaultCode) : c.code ≠ 0#8 := by cases c <;> decide

theorem opField_faultWord (op code : Byte) : (0#16 ++ op ++ code : Word).extractLsb' 8 8 = op :=
  (extractLsb'_append_op (0#16 ++ op) code 0 8).trans BitVec.extractLsb'_append_eq_right

theorem codeField_faultWord (op code : Byte) : (0#16 ++ op ++ code : Word).extractLsb' 0 8 = code :=
  BitVec.extractLsb'_append_eq_right

/-! ### The error registers under a command that completes (60_exceptions R217) -/

/-- `t` has ERR, ERR_INFO, STATUS.ERR and STATUS.ERR_STICKY of `s` (10_state R22, R24, R25). -/
structure SameErrorRegisters (s t : State) : Prop where
  err : t.err = s.err
  errInfo : t.errInfo = s.errInfo
  flag : t.flag .err = s.flag .err
  sticky : t.flag .errSticky = s.flag .errSticky

theorem OutputOnly.sameErrorRegisters {s t : State} (h : OutputOnly s t) : SameErrorRegisters s t where
  err := (congrArg State.err h.frame :)
  errInfo := (congrArg State.errInfo h.frame :)
  flag := h.flag_eq (by decide)
  sticky := h.flag_eq (by decide)

theorem sameErrorRegisters_takeScan (s : State) (r : Scan) : SameErrorRegisters s (s.takeScan r) := by
  have hscan := (takeScan_outputOnly s r).sameErrorRegisters
  exact ⟨hscan.err, hscan.errInfo, hscan.flag, hscan.sticky⟩

/-- Every body but SOFT_RESET's, where it completes, leaves the error registers as dispatch has set them. -/
theorem sameErrorRegisters_of_bodyOf {i : Instr} {s t : State} (hi : i ≠ .softReset) (h : bodyOf i s = .ok t) :
    SameErrorRegisters s t := by
  cases i with
  | softReset => exact absurd rfl hi
  | nop | patClearStage | patClose => cases h; constructor <;> simp
  | pack => obtain ⟨_, -, -, -, -, -, -, rfl⟩ := packBody_eq_ok.1 h; constructor <;> simp
  | unpack => obtain ⟨_, -, -, -, -, -, -, -, rfl⟩ := unpackBody_eq_ok.1 h; constructor <;> simp
  | checksum => obtain ⟨_, -, -, -, rfl⟩ := checksumBody_eq_ok.1 h; constructor <;> simp
  | verify => obtain ⟨-, _, -, -, -, rfl⟩ := verifyBody_eq_ok.1 h; constructor <;> simp
  | frameReset => obtain ⟨-, rfl⟩ := frameResetBody_eq_ok.1 h; constructor <;> simp <;> rfl
  | frameNext => obtain ⟨-, r, -, rfl⟩ := frameNextBody_eq_ok.1 h; exact sameErrorRegisters_takeScan s r
  | classify => obtain ⟨_, -, -, -, rfl⟩ := classifyBody_eq_ok.1 h; constructor <;> simp
  | decodeBulk =>
    obtain ⟨-, _, -, -, -, -, -, -, -, -, -, rfl⟩ := decodeBulkBody_eq_ok.1 h
    constructor <;> simp
  | encodeBulk => obtain ⟨-, -, _, -, -, -, -, -, -, rfl⟩ := encodeBulkBody_eq_ok.1 h; constructor <;> simp
  | encodeInit | encodeClose => obtain ⟨-, -, rfl⟩ := encodeControlBody_eq_ok.1 h; constructor <;> simp
  | patOpen => obtain ⟨_, -, -, -, -, -, rfl⟩ := patOpenBody_eq_ok.1 h; constructor <;> simp <;> rfl
  | patGet => exact (patGetBody_outputOnly h).sameErrorRegisters
  | patSectionEnabled =>
    obtain ⟨-, -, -, -, _, -, rfl⟩ := patSectionEnabledBody_eq_ok.1 h
    constructor <;> simp
  | patWriteSafe =>
    obtain ⟨-, -, -, -, -, -, _, -, -, rfl⟩ := patWriteSafeBody_eq_ok.1 h
    constructor <;> simp
  | patOverlay =>
    obtain ⟨-, -, -, -, _, -, rfl⟩ := patOverlayBody_eq_ok.1 h
    constructor <;> simp

/-- Where dispatch has cleared STATUS.ERR, a body that completes leaves it at 0. -/
theorem flag_err_of_bodyOf {i : Instr} {s t : State} (hclear : s.flag .err = false) (h : bodyOf i s = .ok t) :
    t.flag .err = false := by
  by_cases hi : i = .softReset
  · subst hi
    cases h
    exact s.flag_softReset .err
  · exact (sameErrorRegisters_of_bodyOf hi h).flag.trans hclear

/-- Where dispatch has cleared ERR, a body that completes leaves it at 0. -/
theorem err_of_bodyOf {i : Instr} {s t : State} (hclear : s.err = 0#32) (h : bodyOf i s = .ok t) : t.err = 0#32 := by
  by_cases hi : i = .softReset
  · subst hi
    cases h
    rfl
  · exact (sameErrorRegisters_of_bodyOf hi h).err.trans hclear

/-! ### How a step that writes CMD ends (30_encoding R95) -/

/-- A step that writes CMD while the unit is idle ends a body that completes, or ends fault entry: of a body that raises, or of
ILLEGAL_COMMAND. -/
theorem commandStep_cases {s t : State} {w : Word} (hw : s.nextCommand = some w) (hidle : s.flag .busy = false)
    (hstep : step s = .next t) :
    (∃ i u, decode w = .ok i ∧ bodyOf i (s.advance.beginCommand w) = .ok u ∧ t = u.endCommand) ∨
      ∃ c n, t = ((s.advance.beginCommand w).raiseFault c n).endCommand := by
  rw [step_of_nextCommand hidle hw] at hstep
  obtain ⟨u, hrun, rfl⟩ := onNext_eq_next.1 hstep
  cases hdec : decode w with
  | ok i =>
    rw [runWord_of_decode hdec, exec_eq_commit, commit_eq_next] at hrun
    rcases hrun with hok | ⟨c, n, -, rfl⟩
    · exact .inl ⟨i, u, rfl, hok, rfl⟩
    · exact .inr ⟨c, n, rfl⟩
  | error =>
    rw [runWord, hdec] at hrun
    cases hrun
    exact .inr ⟨.illegalCommand, w.toNat, rfl⟩

/-! ### Obligations on faults -/

/-- Settles O16: a body that completes leaves STATUS.ERR at 0, so the fault is one that the body raised, and fault entry is on the
state before it. -/
theorem faultingCommandChangesOnlyFaultRegisters : Obligations.FaultingCommandChangesOnlyFaultRegisters := by
  intro i s t hclear hexec hfault
  rw [exec_eq_commit] at hexec
  obtain ⟨c, n, hraise, rfl⟩ := commit_faulted hexec (fun _ hok => flag_err_of_bodyOf hclear hok) hfault
  exact ⟨c, bodyOf_raise hraise, n, raiseFault_eq s c n⟩

/-- Settles O15: every CMD write ends with `endCommand`, whatever its command did. -/
theorem faultEntryRecords : Obligations.FaultEntryRecords := by
  refine ⟨raiseFault_eq, fun s t w hw hidle hstep => ?_⟩
  rw [step_of_nextCommand hidle hw] at hstep
  obtain ⟨u, -, rfl⟩ := onNext_eq_next.1 hstep
  exact u.flag_endCommand .busy

/-- Settles O17: dispatch clears STATUS.ERR and ERR, and a body that completes keeps them so; fault entry sets both, ERR from CMD
as dispatch has just written it. -/
theorem errorRegistersDescribeLastCommand : Obligations.ErrorRegistersDescribeLastCommand := by
  intro s t w hw hidle hstep
  rcases commandStep_cases hw hidle hstep with ⟨i, u, hdec, hok, rfl⟩ | ⟨c, n, rfl⟩
  case inl =>
    have hdispatch : (s.advance.beginCommand w).flag .err = false := State.flag_beginCommand ..
    have hclear : u.endCommand.flag .err ≠ true := by simp [flag_err_of_bodyOf hdispatch hok]
    refine ⟨fun _ => (?_ : u.err = 0#32), fun hfault => absurd hfault hclear, fun _ hne => ?_⟩
    · exact err_of_bodyOf (State.beginCommand_err ..) hok
    · have hsame := sameErrorRegisters_of_bodyOf (fun hi => hne (hi ▸ hdec)) hok
      exact ⟨hsame.errInfo, by simpa using hsame.sticky⟩
  case inr =>
    have hset : ((s.advance.beginCommand w).raiseFault c n).endCommand.flag .err ≠ false := by simp
    have hcode := codeField_faultWord (w.extractLsb' 0 8) c.code
    exact ⟨fun hok => absurd hok hset, fun _ => ⟨by simp, opField_faultWord _ _, c, hcode,
      fun hzero => c.code_ne_zero (hcode.symm.trans hzero)⟩, fun hok => absurd hok hset⟩

end Sys2Proof.Machine
end

section
/-! Proofs for 70_reset: the step with no transaction left (60_exceptions R224), and the host access that finds BUSY set (R247). -/

namespace Sys2Proof.Machine

section BusyAccess

variable {s : State}

theorem step_of_ended (h : s.nextTxn = none) : step s = .next s := by
  simp [step, h]

theorem step_of_busy {t : HostTxn} (hbusy : s.flag .busy = true) (h : s.nextTxn = some t) :
    step s = performBusy s.advance t := by
  simp [step, h, perform, hbusy]

/-! ### What a busy unit answers (70_reset R247) -/

theorem performBusy_statusRead {off : Nat} (hc : csrAt off = some .status) :
    performBusy s (.csrRead off) = .next (s.returned s.status) :=
  if_pos hc

theorem performBusy_otherRead {off : Nat} (hc : csrAt off ≠ some .status) :
    performBusy s (.csrRead off) = .next (s.busError.returned 0#32) :=
  if_neg hc

/-- W_BUSERR is bit 12 of STATUS (10_state R22). -/
theorem busError_advance_eq (s : State) :
    s.advance.busError = { s with status := s.status ||| 0x00001000#32, pc := s.pc + 1 } :=
  rfl

end BusyAccess

/-- Settles O14: with BUSY set only the read of STATUS is served, and every other access is a bus error. -/
theorem idleAndBusySteps : Obligations.IdleAndBusySteps := by
  refine ⟨fun s => step_of_ended, fun s hbusy => ⟨fun h => ?statusRead, fun off hc h => ?otherRead, fun a h => ?memRead,
    fun off v h => ?csrWrite, fun a v h => ?memWrite⟩⟩ <;> rw [step_of_busy hbusy h]
  case statusRead => exact performBusy_statusRead (csrAt_csrOffset .status)
  case otherRead => rw [performBusy_otherRead hc, busError_advance_eq, State.returned]
  case memRead => rw [performBusy, busError_advance_eq, State.returned]
  case csrWrite | memWrite => rw [performBusy, busError_advance_eq]

end Sys2Proof.Machine
end
